-- ==== Sys2Proof/Word.lean ====
section
/-! DEFINITION. The word types of the block: every quantity is an unsigned bit vector (00_scope.md rule R6). -/

namespace Sys2Proof

/-- A byte: 8 bits (rule R6). -/
abbrev Byte := BitVec 8

/-- A Word: "a 16-bit unsigned value, the atomic unit of the protocol" (rule R6, rule R9). -/
abbrev Word := BitVec 16

/-- A 32-bit quantity carried as two Words (20_memory.md rule R42). -/
abbrev DWord := BitVec 32

end Sys2Proof
end

