-- ==== Sys2Proof/Config.lean ====
section
/-! DEFINITION. The configuration of the core (00_scope.md rule R5), the interface of the Transport Port
(20_memory.md rule R50), and the free values: what the port answers (rule R50, 93_implementation_defined.md U8, U9). -/

namespace Sys2Proof

/-- The opaque `IoError` value of a port's failure answer (rule R50). The core copies it and never looks inside
(93_implementation_defined.md U10). DESIGN CHOICE (log 8): a token, any natural number. -/
structure IoError where
  token : Nat
deriving DecidableEq, Repr, Inhabited

/-- The opaque `BUS_PATH` (rule R5). DESIGN CHOICE (log 8): a token, any natural number. -/
structure BusPath where
  token : Nat
deriving DecidableEq, Repr, Inhabited

/-- The configuration record of rule R5: fixed before reset, written by no operation. `MAXW` and the word counts are
the definitions below it; `BOOL_OF_WORD` is `boolOfWord` of Machine/Operands.lean. -/
structure Config where
  /-- `MAXW - 20`: how far the word capacity exceeds its minimum, so that `MAXW >= 20` holds by construction. -/
  extraWords : Nat
  /-- `BUS_PATH`, the argument of the port's `open`. -/
  busPath : BusPath
  /-- `BUS_ADDR`, the argument of the port's `set_address`. -/
  busAddr : Byte
  /-- `OPC_RESET` -/
  opcReset : Word
  /-- `OPC_SERIAL` -/
  opcSerial : Word
  /-- `OPC_PRODUCT` -/
  opcProduct : Word
  /-- `OPC_START` -/
  opcStart : Word
  /-- `OPC_STOP` -/
  opcStop : Word
  /-- `OPC_DATA_READY` -/
  opcDataReady : Word
  /-- `OPC_READ_MEAS` -/
  opcReadMeas : Word
  /-- `OPC_AUTOCLEAN`, shared by the get and the set operation (30_encoding.md rule R67). -/
  opcAutoclean : Word
  /-- `START_ARG`, the fixed format argument word of start. -/
  startArg : Word
  /-- `DLY_SERIAL`, microseconds; 0 means no delay. -/
  dlySerial : Nat
  /-- `DLY_PRODUCT`, microseconds -/
  dlyProduct : Nat
  /-- `DLY_DATA_READY`, microseconds -/
  dlyDataReady : Nat
  /-- `DLY_MEAS`, microseconds -/
  dlyMeas : Nat
  /-- `DLY_AUTOCLEAN`, microseconds -/
  dlyAutoclean : Nat
  /-- The words `BOOL_OF_WORD` maps to 0; every other word it maps to 1. Any function from 16 bits to 1 bit is such a
  list, and the default (`w != 0x0000`) is the list of the one word 0. -/
  falseWords : List Word
deriving DecidableEq, Repr, Inhabited

namespace Config

/-- `MAXW`, the most words in one command frame or one response (rule R5; 92_eei_decisions.md D5). -/
def maxW (c : Config) : Nat := c.extraWords + 20

/-- `STR_WORDS` (rule R5; 92_eei_decisions.md D9). -/
def strWords : Nat := 16

/-- `BOOL_WORDS` (rule R5; 92_eei_decisions.md D9). -/
def boolWords : Nat := 1

/-- `MEAS_WORDS` (rule R5). -/
def measWords : Nat := 20

/-- `AC_WORDS` (rule R5). -/
def acWords : Nat := 2

/-- `CRC_POLY` (rule R5), fixed by the source. -/
def crcPoly : Byte := 0x31

/-- `CRC_INIT` (rule R5), fixed by the source. -/
def crcInit : Byte := 0xFF

/-- The opcodes carried by `CMD0` frames: a decoder of bus frames can tell them apart when they differ (rule R72). -/
def cmd0Opcodes (c : Config) : List Word :=
  [c.opcReset, c.opcSerial, c.opcProduct, c.opcStop, c.opcDataReady, c.opcReadMeas, c.opcAutoclean]

/-- The suggested bus opcodes of rule R5 put into a configuration. They are the numerals opcode_table.json writes its
bus rows with; no source vouches for them (log 4), and the machine's own configuration is not this one. -/
def withSuggestedOpcodes (c : Config) : Config :=
  { c with opcReset := 0xD304, opcSerial := 0xD033, opcProduct := 0xD025, opcStart := 0x0010, opcStop := 0x0104,
           opcDataReady := 0x0202, opcReadMeas := 0x0300, opcAutoclean := 0x8004 }

/-- The configuration of the test vectors (95_test_vectors.md, Conventions): the suggested values, `DLY_MEAS = 10000`,
every other delay 0, `MAXW = 20`, the default `BOOL_OF_WORD`. The device path is any token. -/
def suggested : Config :=
  { extraWords := 0, busPath := ⟨0⟩, busAddr := 0x69, opcReset := 0xD304, opcSerial := 0xD033, opcProduct := 0xD025,
    opcStart := 0x0010, opcStop := 0x0104, opcDataReady := 0x0202, opcReadMeas := 0x0300, opcAutoclean := 0x8004,
    startArg := 0x0300, dlySerial := 0, dlyProduct := 0, dlyDataReady := 0, dlyMeas := 10000, dlyAutoclean := 0,
    falseWords := [0x0000] }

/-- The configuration of the machine this model is about: every `OPEN` parameter of rule R5 is some value, and nothing
can be proved of which (log 3). -/
opaque implementation : Config

end Config

/-- A call of the core on the Transport Port with what the core passes (20_memory.md rule R50). -/
inductive PortCall where
  | openPath (path : BusPath)
  | setAddress (addr : Byte)
  | write (bytes : List Byte)
  | read (count : Nat)
deriving DecidableEq, Repr

/-- The port's answer to a call: `Ok`, with the bytes delivered for a read, or `IoError(e)` (rule R50). -/
inductive PortAnswer where
  | ok (bytes : List Byte)
  | ioError (e : IoError)
deriving DecidableEq, Repr

/-- An event of the port trace (20_memory.md rule R53): a call paired with the answer the port gave, or a settling
delay with its operand in microseconds. -/
inductive PortEvent where
  | call (c : PortCall) (a : PortAnswer)
  | delay (us : Nat)
deriving DecidableEq, Repr

namespace Config

/-- FREE VALUE (rule R50, U8, U9; log 5). What the port does at one poll of an outstanding call: an answer, or none yet.
It may depend on the history of events, on the call and on how often the port was asked; nothing constrains it. -/
opaque portAnswer : (history : List PortEvent) → (call : PortCall) → (poll : Nat) → Option PortAnswer

/-- FREE VALUE (rule R50, 92_eei_decisions.md D36; log 5). The `IoError` with which the port reports a read that did not
transfer exactly the count asked for. -/
opaque transferError : (count : Nat) → (delivered : List Byte) → IoError

end Config

end Sys2Proof
end

