-- ==== Sys2Proof/Machine/Bits.lean ====
section
/-! DEFINITION. Slices and concatenations of words, and big-endian byte strings (00_scope.md rule R6, 20_memory.md
rules R41 and R42, 30_encoding.md rules R62 and R63). -/

namespace Sys2Proof

/-- `w[15:8]`, the byte transferred first (rule R41, rule R62). -/
def hiByte (w : Word) : Byte := w.extractLsb' 8 8

/-- `w[7:0]`, the byte transferred second (rule R41, rule R62). -/
def loByte (w : Word) : Byte := w.extractLsb' 0 8

/-- `h ++ l` on bytes: `h` is the more significant part (rule R6, rule R62). -/
def catBytes (h l : Byte) : Word := h ++ l

/-- `u[31:16]`, the word transferred first (rule R42, rule R63). -/
def hiWord (u : DWord) : Word := u.extractLsb' 16 16

/-- `u[15:0]`, the word transferred second (rule R42, rule R63). -/
def loWord (u : DWord) : Word := u.extractLsb' 0 16

/-- `a ++ b` on words: `a` is the more significant part (rule R6, rule R42). -/
def catWords (a b : Word) : DWord := a ++ b

/-- A byte string read as one number, its first byte most significant (30_encoding.md rule R60). -/
def beNumber (bs : List Byte) : Nat := bs.foldl (fun acc b => acc * 256 + b.toNat) 0

/-- The `k` bytes of a number, most significant first: the inverse of `beNumber` on `k`-byte numbers. -/
def beBytes (k n : Nat) : List Byte :=
  match k with
  | 0 => []
  | k + 1 => BitVec.ofNat 8 (n / 256 ^ k) :: beBytes k n

end Sys2Proof
end

