-- ==== Sys2Proof/Machine/Crc.lean ====
section
/-! DEFINITION. The arithmetic of the Checksum Engine (40_checksum.md rules R80 and R85): XOR, left shift by one with
truncation to 8 bits, test of bit 7. -/

namespace Sys2Proof

/-- One shift step of rule R80: bit 7 chooses whether the polynomial is XORed into the shifted register. -/
def crcShift (c : Byte) : Byte :=
  if c.msb then (c <<< 1) ^^^ Config.crcPoly else c <<< 1

/-- The inner `repeat 8 times` of rule R80, the function `T` of rule R83. -/
def crcShift8 (c : Byte) : Byte :=
  crcShift (crcShift (crcShift (crcShift (crcShift (crcShift (crcShift (crcShift c)))))))

/-- One input byte of rule R80: XOR it into the register, then eight shift steps. -/
def crcByte (c b : Byte) : Byte := crcShift8 (c ^^^ b)

/-- The value `generate_checksum(b0, b1)` of rule R80: the register starts at `CRC_INIT`, `b0` goes first. -/
def checksum (b0 b1 : Byte) : Byte := crcByte (crcByte Config.crcInit b0) b1

/-- The checksum of a word's two bytes, high byte first (20_memory.md rule R41). -/
def wordChecksum (w : Word) : Byte := checksum (hiByte w) (loByte w)

/-- The bit `verify_checksum(b0, b1, c)` of rule R81. -/
def verify (b0 b1 c : Byte) : Bool := checksum b0 b1 == c

end Sys2Proof
end

