-- ==== Sys2Proof/Machine/Frame.lean ====
section
/-! DEFINITION. The bytes on the bus: command frames and response buffers (30_encoding.md rules R60, R61, R62). -/

namespace Sys2Proof

/-- A word's two bytes followed by its checksum byte: one triplet of a frame or of a response (rule R60, rule R61). -/
def wordTriplet (w : Word) : List Byte := [hiByte w, loByte w, wordChecksum w]

/-- The triplets of a list of words, in order. An intact response buffer of these words (rule R61). -/
def responseOf : List Word → List Byte
  | [] => []
  | w :: ws => wordTriplet w ++ responseOf ws

/-- The command frame of a bus opcode and its argument words (rule R60). The opcode carries no checksum. -/
def frameOf (opcode : Word) (args : List Word) : List Byte :=
  hiByte opcode :: loByte opcode :: responseOf args

/-- One triplet as received: two data bytes and a checksum byte (rule R61). -/
structure Triplet where
  h : Byte
  l : Byte
  c : Byte
deriving DecidableEq, Repr

/-- The triplet's word, accepted or not (rule R62). -/
def Triplet.word (t : Triplet) : Word := catBytes t.h t.l

/-- Does the triplet's checksum byte match (rule R61)? -/
def Triplet.intact (t : Triplet) : Bool := verify t.h t.l t.c

/-- The triplets of a byte string: word `i` starts at byte `3*i` (20_memory.md rule R43). -/
def tripletsOf : List Byte → List Triplet
  | h :: l :: c :: rest => ⟨h, l, c⟩ :: tripletsOf rest
  | _ => []

/-- The least index whose triplet fails, if one does (41_codec.md rule R91, "Fails fast on the first invalid
checksum"). -/
def firstBad : List Triplet → Option Nat
  | [] => none
  | t :: ts => if t.intact then (firstBad ts).map (· + 1) else some 0

end Sys2Proof
end

