-- ==== Sys2Proof/Syntax.lean ====
section
/-! DEFINITION. The operations of the block: one constructor per row of spec/opcode_table.json (30_encoding.md rules
R68, R69 and R72). -/

namespace Sys2Proof

/-- An operation of the core with its operands. Ten host operations, eight unit operations, the three reserved ranges of
host requests, and the nine bus frames. -/
inductive Instr where
  /-- `init()`, OPID 0x00 (43_lifecycle.md rule R121). -/
  | init
  /-- `reset()`, OPID 0x01 (rule R122). -/
  | reset
  /-- `get_serial_number()`, OPID 0x02 (rule R123). -/
  | getSerialNumber
  /-- `get_product_number()`, OPID 0x03 (rule R124). -/
  | getProductNumber
  /-- `start()`, OPID 0x04 (rule R125). -/
  | start
  /-- `stop()`, OPID 0x05 (rule R126). -/
  | stop
  /-- `is_new_data_available()`, OPID 0x06 (rule R127). -/
  | isNewDataAvailable
  /-- `get_measurement()`, OPID 0x07 (rule R128). -/
  | getMeasurement
  /-- `get_auto_clean_interval()`, OPID 0x08 (rule R129). -/
  | getAutoCleanInterval
  /-- `set_auto_clean_interval(seconds)`, OPID 0x09, `ARG32` = seconds (rule R130). -/
  | setAutoCleanInterval (seconds : DWord)
  /-- `generate_checksum(b0, b1)`, OPID 0x10 (40_checksum.md rule R80). -/
  | generateChecksum (b0 b1 : Byte)
  /-- `verify_checksum(b0, b1, c)`, OPID 0x11 (rule R81). -/
  | verifyChecksum (b0 b1 c : Byte)
  /-- `encode(opcode, args)`, OPID 0x12 (41_codec.md rule R90). -/
  | encode (opcode : Word) (args : List Word)
  /-- `decode(n)`, OPID 0x13 (rule R91). -/
  | decode (n : Nat)
  /-- `write_command(opcode)`, OPID 0x14 (42_executor.md rule R100). -/
  | writeCommand (opcode : Word)
  /-- `write_command_with_args(opcode, words)`, OPID 0x15 (rule R101). -/
  | writeCommandWithArgs (opcode : Word) (words : List Word)
  /-- `read_delayed(opcode, delay, num_words)`, OPID 0x16 (rule R102); `delay` in microseconds. -/
  | readDelayed (opcode : Word) (delay n : Nat)
  /-- `read_command(opcode, num_words)`, OPID 0x17 (rule R103). -/
  | readCommand (opcode : Word) (n : Nat)
  /-- The reserved OPIDs 0x0A and 0x0B; `k` is `OPID[0]` (30_encoding.md rule R69 (a)). -/
  | reserved0A0B (k : BitVec 1)
  /-- The reserved OPIDs 0x0C to 0x0F; `k` is `OPID[1:0]` (rule R69 (a)). -/
  | reserved0C0F (k : BitVec 2)
  /-- The reserved OPIDs 0x18 to 0x1F; `k` is `OPID[2:0]` (rule R69 (a)). -/
  | reserved181F (k : BitVec 3)
  /-- The `CMD0` frame of reset (30_encoding.md rules R60 and R67). -/
  | busReset
  /-- The `CMD0` frame of get_serial_number, answered by `RSP16`. -/
  | busGetSerialNumber
  /-- The `CMD0` frame of get_product_number, answered by `RSP16`. -/
  | busGetProductNumber
  /-- The `CMD1` frame of start: argument word `a` and its checksum byte `c`. -/
  | busStart (a : Word) (c : Byte)
  /-- The `CMD0` frame of stop. -/
  | busStop
  /-- The `CMD0` frame of is_new_data_available, answered by `RSP1`. -/
  | busIsNewDataAvailable
  /-- The `CMD0` frame of get_measurement, answered by `RSP20`. -/
  | busGetMeasurement
  /-- The `CMD0` frame of get_auto_clean_interval, answered by `RSP2`. -/
  | busGetAutoCleanInterval
  /-- The `CMD2` frame of set_auto_clean_interval: argument words `a`, `b` and their checksum bytes `c`, `d`. -/
  | busSetAutoCleanInterval (a : Word) (c : Byte) (b : Word) (d : Byte)
deriving DecidableEq, Repr

/-- The ten operations of the outward interface (30_encoding.md rule R68, `OPID[4] = 0`). -/
def Instr.isHostOp : Instr → Bool
  | .init | .reset | .getSerialNumber | .getProductNumber | .start | .stop | .isNewDataAvailable | .getMeasurement
  | .getAutoCleanInterval | .setAutoCleanInterval _ => true
  | .generateChecksum _ _ | .verifyChecksum _ _ _ | .encode _ _ | .decode _ | .writeCommand _
  | .writeCommandWithArgs _ _ | .readDelayed _ _ _ | .readCommand _ _ | .reserved0A0B _ | .reserved0C0F _
  | .reserved181F _ | .busReset | .busGetSerialNumber | .busGetProductNumber | .busStart _ _ | .busStop
  | .busIsNewDataAvailable | .busGetMeasurement | .busGetAutoCleanInterval | .busSetAutoCleanInterval _ _ _ _ => false

end Sys2Proof
end

