-- ==== Sys2Proof/WellFormed.lean ====
section
/-! DEFINITION. Which operations meet the preconditions the spec puts on their operands: the word count is within
`MAXW` (20_memory.md rule R54), and the checksum bytes of a bus frame are those of its words (30_encoding.md rule R60). -/

namespace Sys2Proof

/-- The preconditions of an operation that its operands and the configuration decide. -/
def Instr.wellFormed (cfg : Config) : Instr → Bool
  | .encode _ args => decide (args.length ≤ cfg.maxW)
  | .decode n => decide (n ≤ cfg.maxW)
  | .writeCommandWithArgs _ words => decide (words.length ≤ cfg.maxW)
  | .readDelayed _ _ n => decide (n ≤ cfg.maxW)
  | .readCommand _ n => decide (n ≤ cfg.maxW)
  | .busStart a c => c == wordChecksum a
  | .busSetAutoCleanInterval a c b d => c == wordChecksum a && d == wordChecksum b
  | .init | .reset | .getSerialNumber | .getProductNumber | .start | .stop | .isNewDataAvailable | .getMeasurement
  | .getAutoCleanInterval | .setAutoCleanInterval _ | .generateChecksum _ _ | .verifyChecksum _ _ _
  | .writeCommand _ | .reserved0A0B _ | .reserved0C0F _ | .reserved181F _ | .busReset | .busGetSerialNumber
  | .busGetProductNumber | .busStop | .busIsNewDataAvailable | .busGetMeasurement | .busGetAutoCleanInterval => true

end Sys2Proof
end

