-- ==== Sys2Proof/Decode.lean ====
section
/-! DEFINITION. Requests and their decoding (30_encoding.md rules R60, R68, R69, R72): host requests by OPID, unit
operations driven directly, bus frames; a total decoder that rejects by name, and the encoder. -/

namespace Sys2Proof

/-- What is presented to the machine, by the table's three spaces. -/
inductive Request where
  /-- A host request: the 37-bit pair `(OPID[4:0], ARG32[31:0])` (rule R68). -/
  | host (opid : BitVec 5) (arg32 : DWord)
  /-- A unit operation driven directly, "as a test bench would" (95_test_vectors.md P6): its identifier and its
  operands as numbers, in the order of the table's row. DESIGN CHOICE (log 2): the spec gives unit operations no binary
  form of their operands. -/
  | unitOp (opid : BitVec 5) (operands : List Nat)
  /-- A command frame, byte by byte in the order transferred (rule R60). -/
  | frame (bytes : List Byte)
deriving DecidableEq, Repr

/-- Why a request names no operation. -/
inductive DecodeError where
  /-- A host request with a unit operation's OPID: "never decoded from a host request", treated as reserved (R68). -/
  | hostUnitOpid (opid : BitVec 5)
  /-- A unit request whose identifier names no unit operation (rule R68). -/
  | unknownUnit (opid : BitVec 5)
  /-- A unit request whose operands have not the number or the widths of the row: a precondition (rule R80). -/
  | operandShape (opid : BitVec 5)
  /-- A frame of no shape of the table: 2, 5 or 8 bytes (rule R60). -/
  | frameLength (length : Nat)
  /-- A frame of a known shape whose opcode is none of the configuration's for that shape (rule R67). -/
  | unknownOpcode (opcode : Word)
deriving DecidableEq, Repr

/-- A number as an 8-bit operand, if it is one. -/
def byteOperand (n : Nat) : Option Byte := if n < 256 then some (BitVec.ofNat 8 n) else none

/-- A number as a 16-bit operand, if it is one. -/
def wordOperand (n : Nat) : Option Word := if n < 65536 then some (BitVec.ofNat 16 n) else none

/-- A list of 16-bit operands, if every number is one. -/
def wordOperands : List Nat → Option (List Word)
  | [] => some []
  | n :: ns =>
    match wordOperand n, wordOperands ns with
    | some w, some ws => some (w :: ws)
    | _, _ => none

/-- A host request (rule R68; rule R69 (a)). `ARG32` is ignored by every operation but set_auto_clean_interval. -/
def decodeHost (opid : BitVec 5) (arg32 : DWord) : Except DecodeError Instr :=
  if opid = 0x00 then .ok .init
  else if opid = 0x01 then .ok .reset
  else if opid = 0x02 then .ok .getSerialNumber
  else if opid = 0x03 then .ok .getProductNumber
  else if opid = 0x04 then .ok .start
  else if opid = 0x05 then .ok .stop
  else if opid = 0x06 then .ok .isNewDataAvailable
  else if opid = 0x07 then .ok .getMeasurement
  else if opid = 0x08 then .ok .getAutoCleanInterval
  else if opid = 0x09 then .ok (.setAutoCleanInterval arg32)
  else if opid.extractLsb' 1 4 = 0x5 then .ok (.reserved0A0B (opid.extractLsb' 0 1))
  else if opid.extractLsb' 2 3 = 0x3 then .ok (.reserved0C0F (opid.extractLsb' 0 2))
  else if opid.extractLsb' 3 2 = 0x3 then .ok (.reserved181F (opid.extractLsb' 0 3))
  else .error (.hostUnitOpid opid)

/-- The operands of a unit operation, checked against its row (rule R68, rules R80 to R103). -/
def unitInstr? (opid : BitVec 5) (operands : List Nat) : Option Instr :=
  if opid = 0x10 then
    match operands with
    | [b0, b1] => do return .generateChecksum (← byteOperand b0) (← byteOperand b1)
    | _ => none
  else if opid = 0x11 then
    match operands with
    | [b0, b1, c] => do return .verifyChecksum (← byteOperand b0) (← byteOperand b1) (← byteOperand c)
    | _ => none
  else if opid = 0x12 then
    match operands with
    | opcode :: args => do return .encode (← wordOperand opcode) (← wordOperands args)
    | _ => none
  else if opid = 0x13 then
    match operands with
    | [n] => some (.decode n)
    | _ => none
  else if opid = 0x14 then
    match operands with
    | [opcode] => do return .writeCommand (← wordOperand opcode)
    | _ => none
  else if opid = 0x15 then
    match operands with
    | opcode :: words => do return .writeCommandWithArgs (← wordOperand opcode) (← wordOperands words)
    | _ => none
  else if opid = 0x16 then
    match operands with
    | [opcode, delay, n] => do return .readDelayed (← wordOperand opcode) delay n
    | _ => none
  else if opid = 0x17 then
    match operands with
    | [opcode, n] => do return .readCommand (← wordOperand opcode) n
    | _ => none
  else none

/-- Does the identifier name a unit operation: 0x10 to 0x17 (rule R68)? -/
def isUnitOpid (opid : BitVec 5) : Bool := opid.extractLsb' 3 2 == 0x2

/-- A unit operation driven directly (rule R68). -/
def decodeUnit (opid : BitVec 5) (operands : List Nat) : Except DecodeError Instr :=
  if isUnitOpid opid then
    match unitInstr? opid operands with
    | some i => .ok i
    | none => .error (.operandShape opid)
  else .error (.unknownUnit opid)

/-- A two-byte frame (`CMD0`): the opcode alone tells the operation (rule R67). DESIGN CHOICE (log 19): where two of the
configured opcodes are equal, which rule R67 neither excludes nor settles, the frame names the first of them in the order
of these lines. -/
def decodeCmd0 (cfg : Config) (opcode : Word) : Except DecodeError Instr :=
  if opcode = cfg.opcReset then .ok .busReset
  else if opcode = cfg.opcSerial then .ok .busGetSerialNumber
  else if opcode = cfg.opcProduct then .ok .busGetProductNumber
  else if opcode = cfg.opcStop then .ok .busStop
  else if opcode = cfg.opcDataReady then .ok .busIsNewDataAvailable
  else if opcode = cfg.opcReadMeas then .ok .busGetMeasurement
  else if opcode = cfg.opcAutoclean then .ok .busGetAutoCleanInterval
  else .error (.unknownOpcode opcode)

/-- A bus frame: its length tells its shape, which is never read from the bytes (rule R60, rule R67, rule R70). -/
def decodeFrame (cfg : Config) (bytes : List Byte) : Except DecodeError Instr :=
  match bytes with
  | [h, l] => decodeCmd0 cfg (catBytes h l)
  | [h, l, a1, a0, c] =>
    if catBytes h l = cfg.opcStart then .ok (.busStart (catBytes a1 a0) c)
    else .error (.unknownOpcode (catBytes h l))
  | [h, l, a1, a0, c, b1, b0, d] =>
    if catBytes h l = cfg.opcAutoclean then .ok (.busSetAutoCleanInterval (catBytes a1 a0) c (catBytes b1 b0) d)
    else .error (.unknownOpcode (catBytes h l))
  | _ => .error (.frameLength bytes.length)

/-- The decoder: total on any request, rejecting by name. The configuration gives the bus opcodes (rule R72). -/
def decode (cfg : Config) (r : Request) : Except DecodeError Instr :=
  match r with
  | .host opid arg32 => decodeHost opid arg32
  | .unitOp opid operands => decodeUnit opid operands
  | .frame bytes => decodeFrame cfg bytes

/-- The two bytes of a bus opcode, big-endian (rule R60). -/
def opcodeBytes (opcode : Word) : List Byte := [hiByte opcode, loByte opcode]

/-- The two data bytes and the checksum byte of an argument word as the frame carries them (rule R60). -/
def argBytes (a : Word) (c : Byte) : List Byte := [hiByte a, loByte a, c]

/-- The encoder: the request that names an operation (rule R68), or its frame on the bus (rules R60 and R67). -/
def encode (cfg : Config) (i : Instr) : Request :=
  match i with
  | .init => .host 0x00 0
  | .reset => .host 0x01 0
  | .getSerialNumber => .host 0x02 0
  | .getProductNumber => .host 0x03 0
  | .start => .host 0x04 0
  | .stop => .host 0x05 0
  | .isNewDataAvailable => .host 0x06 0
  | .getMeasurement => .host 0x07 0
  | .getAutoCleanInterval => .host 0x08 0
  | .setAutoCleanInterval seconds => .host 0x09 seconds
  | .generateChecksum b0 b1 => .unitOp 0x10 [b0.toNat, b1.toNat]
  | .verifyChecksum b0 b1 c => .unitOp 0x11 [b0.toNat, b1.toNat, c.toNat]
  | .encode opcode args => .unitOp 0x12 (opcode.toNat :: args.map BitVec.toNat)
  | .decode n => .unitOp 0x13 [n]
  | .writeCommand opcode => .unitOp 0x14 [opcode.toNat]
  | .writeCommandWithArgs opcode words => .unitOp 0x15 (opcode.toNat :: words.map BitVec.toNat)
  | .readDelayed opcode delay n => .unitOp 0x16 [opcode.toNat, delay, n]
  | .readCommand opcode n => .unitOp 0x17 [opcode.toNat, n]
  | .reserved0A0B k => .host ((0x5 : BitVec 4) ++ k) 0
  | .reserved0C0F k => .host ((0x3 : BitVec 3) ++ k) 0
  | .reserved181F k => .host ((0x3 : BitVec 2) ++ k) 0
  | .busReset => .frame (opcodeBytes cfg.opcReset)
  | .busGetSerialNumber => .frame (opcodeBytes cfg.opcSerial)
  | .busGetProductNumber => .frame (opcodeBytes cfg.opcProduct)
  | .busStart a c => .frame (opcodeBytes cfg.opcStart ++ argBytes a c)
  | .busStop => .frame (opcodeBytes cfg.opcStop)
  | .busIsNewDataAvailable => .frame (opcodeBytes cfg.opcDataReady)
  | .busGetMeasurement => .frame (opcodeBytes cfg.opcReadMeas)
  | .busGetAutoCleanInterval => .frame (opcodeBytes cfg.opcAutoclean)
  | .busSetAutoCleanInterval a c b d => .frame (opcodeBytes cfg.opcAutoclean ++ (argBytes a c ++ argBytes b d))

/-- The operands of a unit operation when every operand is zero, and a list of words is empty. -/
def zeroOperands (opid : BitVec 5) : List Nat :=
  if opid = 0x10 then [0, 0]
  else if opid = 0x11 then [0, 0, 0]
  else if opid = 0x16 then [0, 0, 0]
  else if opid = 0x17 then [0, 0]
  else [0]

/-- The request that a word of opcode_table.json stands for. The table numbers a 5-bit OPID row as that identifier and a
bus frame as one number whose first byte is the most significant (rule R60): `nbits` up to 8 is an identifier, with
`ARG32` or the operands zero; more is a frame of that many bits. -/
def tableRequest (nbits w : Nat) : Request :=
  if nbits ≤ 8 then
    let opid := BitVec.ofNat 5 w
    if isUnitOpid opid then .unitOp opid (zeroOperands opid) else .host opid 0
  else .frame (beBytes ((nbits + 7) / 8) w)

/-- The instruction the decoder reads from a word of opcode_table.json. The table writes its bus rows with the suggested
opcodes (log 4), so they are decoded under the suggested configuration. -/
def decodeTableWord (nbits w : Nat) : Option Instr :=
  match decode Config.suggested (tableRequest nbits w) with
  | .ok i => some i
  | .error _ => none

end Sys2Proof
end

