-- ==== Sys2Proof/Machine/State.lean ====
section
/-! DEFINITION. The state of the machine (10_state.md rules R20 to R33), the reasons it can stop, and its state after
reset. -/

namespace Sys2Proof.Machine

/-- The Lifecycle State `LS` (10_state.md rule R21). Code 3 is reserved and never produced, so it has no name here. -/
inductive Lifecycle where
  | uninitialized
  | idle
  | measuring
deriving DecidableEq, Repr

/-- The sequencer phase `PH` (10_state.md rule R23). `openPort` is the spec's `Open`. -/
inductive Phase where
  | ready
  | guard
  | openPort
  | addr
  | encode
  | write
  | wait
  | read
  | decode
  | pack
deriving DecidableEq, Repr

/-- The status `ST` of the last completed operation (10_state.md rule R25). -/
inductive Status where
  | ok
  | transportError
  | checksumError
  | stateError
deriving DecidableEq, Repr

/-- The ten fields of the Measurement Record, in the order of 30_encoding.md rule R64: `RREC[0]` to `RREC[9]`. -/
structure MeasurementRecord where
  mc0 : DWord
  mc1 : DWord
  mc2 : DWord
  mc3 : DWord
  nc0 : DWord
  nc1 : DWord
  nc2 : DWord
  nc3 : DWord
  nc4 : DWord
  tps : DWord
deriving DecidableEq, Repr

/-- The value a unit operation returns (00_scope.md rule R7, `return v`). -/
inductive Returned where
  /-- The checksum of generate_checksum. -/
  | byte (b : Byte)
  /-- The bit of verify_checksum. -/
  | bit (b : Bool)
  /-- The frame length of encode. -/
  | length (n : Nat)
  /-- The `Ok` of decode and of the executor operations. -/
  | ok
deriving DecidableEq, Repr

/-- A byte buffer as memory: (index, byte) pairs, indices strictly rising. An unlisted index holds no value (10_state.md
rule R26, rule R32), and reading it faults. -/
abbrev Memory := List Host.Cell

/-- An element of state that can hold no value (10_state.md rule R32). -/
inductive Element where
  | txb
  | rxb
  | w
  | errIdx
  | ioErr
  | rbool
  | ru32
  | rstr
  | rrec
deriving DecidableEq, Repr

/-- Why the machine stops with a fault. -/
inductive Fault where
  /-- An element that holds no value was read (10_state.md rule R32). Raised by decode driven directly when `RXB` lacks
  a byte of a triplet it examines, by a resumed write when `TXB` lacks a byte below `TXLEN`, by the payload conversions when a
  `W[i]` they convert holds no value, and by the host's reading of `ERRIDX`, `IOERR` or a payload register that holds
  none. Safe: the rule asks for this fault, and no run from reset reaches it. -/
  | noValue (e : Element)
deriving DecidableEq, Repr

/-- Why a request has no meaning. -/
inductive Refusal where
  /-- An instruction that has no meaning yet; no arm of exec answers so. Safe. -/
  | notModelled (mnemonic : String)
  /-- A request that names no operation, raised by step (30_encoding.md rule R68, rule R69). Safe. -/
  | undecoded (e : DecodeError)
  /-- A reserved OPID, raised by the three reserved instructions (30_encoding.md rule R69 (a)). Safe. -/
  | reservedOpid (opid : BitVec 5)
  /-- A word count above `MAXW`, raised by encode, decode, write_command_with_args, read_delayed and read_command
  (20_memory.md rule R54). Safe. -/
  | overCapacity (n : Nat)
  /-- A decode whose `RXLEN` is not `3*n`, raised by decode driven directly (20_memory.md rule R43). Safe. -/
  | responseLength (rxlen n : Nat)
  /-- A request while another operation is in progress, raised by every operation (20_memory.md rule R48 (e)). Safe. -/
  | overlap
  /-- A bus frame whose checksum byte is not its word's, raised by the frames that carry words: such bytes are no
  command frame (30_encoding.md rule R60). Safe. -/
  | badFrame
deriving DecidableEq, Repr

/-- The state of the core (10_state.md rule R20), and below it what a run of the model carries beside the core: the
configuration, the operation in progress, the host's coming requests, the port's coming answers and the port trace. -/
structure State where
  /-- `LS` (rule R21). -/
  ls : Lifecycle
  /-- `W[0 .. NW-1]` (rule R22). `W[i]` with `i >= NW` holds no value and is not listed. -/
  w : List Word
  /-- `NW` (rule R22). -/
  nw : Nat
  /-- `PH` (rule R23). -/
  ph : Phase
  /-- `IDX` (rule R23). -/
  idx : Nat
  /-- `CRC` (rule R24). -/
  crc : Option Byte
  /-- `ST` (rule R25). -/
  st : Status
  /-- `ERRIDX` (rule R25). -/
  errIdx : Option Nat
  /-- `IOERR` (rule R25). -/
  ioErr : Option IoError
  /-- `TXB` (rule R26). -/
  txb : Memory
  /-- `TXLEN` (rule R26). -/
  txlen : Nat
  /-- `RXB` (rule R26). -/
  rxb : Memory
  /-- `RXLEN` (rule R26). -/
  rxlen : Nat
  /-- `RBOOL` (rule R27). -/
  rbool : Option Bool
  /-- `RU32` (rule R27). -/
  ru32 : Option DWord
  /-- `RSTR[0 .. RSTRLEN-1]` (rule R27). `RSTR[k]` with `k >= RSTRLEN` holds no value and is not listed. -/
  rstr : List Byte
  /-- `RSTRLEN` (rule R27). -/
  rstrlen : Option Nat
  /-- `RREC[0..9]` (rule R27). -/
  rrec : Option MeasurementRecord
  /-- The value the last unit operation driven directly returned (00_scope.md rule R7); the model's own field. -/
  ret : Option Returned
  /-- The operation in progress with its operands, "held stable by the host until completion" (rule R28). -/
  cur : Option Instr
  /-- The configuration (00_scope.md rule R5): not state, carried unchanged by every step (log 3). -/
  cfg : Config
  /-- The host's coming requests, the next one first (43_lifecycle.md rule R132; log 1). -/
  requests : List Request
  /-- The port script (95_test_vectors.md, Conventions): what the port does at its coming polls, `none` for no answer
  yet. When it is used up the free value `Config.portAnswer` takes its place (log 5). -/
  script : List (Option PortAnswer)
  /-- How many polls the free value has answered (log 5). -/
  polls : Nat
  /-- The port trace, oldest event first (00_scope.md rule R8, 20_memory.md rule R53). -/
  trace : List PortEvent
deriving DecidableEq, Repr

/-- The three outcomes of an operation and of a step. -/
abbrev Result := Host.Outcome State Fault Refusal

/-- The machine after reset: every element at the value of 10_state.md rule R31, and the model's own fields empty. -/
def State.reset : State :=
  { ls := .uninitialized, w := [], nw := 0, ph := .ready, idx := 0, crc := none, st := .ok, errIdx := none,
    ioErr := none, txb := [], txlen := 0, rxb := [], rxlen := 0, rbool := none, ru32 := none, rstr := [],
    rstrlen := none, rrec := none, ret := none, cur := none, cfg := Config.implementation, requests := [],
    script := [], polls := 0, trace := [] }

end Sys2Proof.Machine
end

