-- ==== Sys2Proof/Machine/Ops.lean ====
section
/-! DEFINITION. The named operations over buffers, the Transport Port and the sequencer: buffer reads and writes, one
port call, acceptance of a request, error entry (60_exceptions.md rule R156) and return. -/

namespace Sys2Proof.Machine

/-! ### Elements that can hold no value (10_state.md rule R32) -/

/-- The one read of an element: the value it holds, or the fault when it holds none. -/
def valueOf {α : Type} (e : Element) (v : Option α) : Except Fault α :=
  match v with
  | some a => .ok a
  | none => .error (.noValue e)

/-- Read an element and go on with its value, or stop with that fault. -/
def withValue {α : Type} (e : Element) (v : Option α) (k : α → Result) : Result :=
  match valueOf e v with
  | .ok a => k a
  | .error f => .fault f

/-! ### Byte buffers (20_memory.md rule R40, 00_scope.md rule R7) -/

/-- One byte of a buffer, if that index holds a value (10_state.md rule R32). -/
def Memory.read (m : Memory) (a : Nat) : Option Byte :=
  match m with
  | [] => none
  | (x, b) :: rest => if x = a then some b else Memory.read rest a

/-- Write one byte, keeping the indices strictly rising. -/
def Memory.write (m : Memory) (a : Nat) (b : Byte) : Memory :=
  match m with
  | [] => [(a, b)]
  | (x, y) :: rest =>
    if a < x then (a, b) :: (x, y) :: rest
    else if a = x then (a, b) :: rest
    else (x, y) :: Memory.write rest a b

/-- `MemWrite(a, n, v)`: the bytes of `v` at `a`, `a+1`, ... (rule R7). -/
def Memory.writeBytes (m : Memory) (a : Nat) (bs : List Byte) : Memory :=
  match bs with
  | [] => m
  | b :: rest => Memory.writeBytes (Memory.write m a b) (a + 1) rest

/-- `MemRead(a, n)`: the bytes at `a` to `a+n-1`, if all of them hold a value (rule R7, rule R32). -/
def Memory.readBytes (m : Memory) (a n : Nat) : Option (List Byte) :=
  match n with
  | 0 => some []
  | n + 1 =>
    match Memory.read m a, Memory.readBytes m (a + 1) n with
    | some b, some rest => some (b :: rest)
    | _, _ => none

/-- The canonical form: indices strictly rising. An unlisted index holds no value, so no entry can equal what it reads
as. -/
def Memory.wf (m : Memory) : Bool :=
  match m with
  | [] => true
  | [_] => true
  | (x, _) :: (y, c) :: rest => decide (x < y) && Memory.wf ((y, c) :: rest)

/-! ### Completion (43_lifecycle.md rule R132, 60_exceptions.md rules R156 and R157) -/

/-- The end of an operation: `PH <- Ready`, and the host withdraws the request (rule R23, rule R28). -/
def State.complete (s : State) : State := { s with ph := .ready, cur := none }

/-- Invalidate the payload registers (10_state.md rule R27). -/
def State.clearPayload (s : State) : State :=
  { s with rbool := none, ru32 := none, rstr := [], rstrlen := none, rrec := none }

/-- `NW <- 0`: no word register holds a value (10_state.md rule R22). -/
def State.clearWords (s : State) : State := { s with nw := 0, w := [] }

/-- The three errors with the information they record (60_exceptions.md rule R150). -/
inductive SensorError where
  | transport (e : IoError)
  | checksum (i : Nat)
  | state
deriving DecidableEq, Repr

/-- The status registers an error writes, and for a ChecksumError the word registers (rule R156). -/
def State.recordError (s : State) (e : SensorError) : State :=
  match e with
  | .transport e => { s with st := .transportError, ioErr := some e, errIdx := none }
  | .checksum i => { s.clearWords with st := .checksumError, errIdx := some i, ioErr := none }
  | .state => { s with st := .stateError, errIdx := none, ioErr := none }

/-- Error entry, `raise <Error>(info)` (rule R156): the one operation every error goes through. -/
def State.raise (s : State) (e : SensorError) : State := (s.recordError e).clearPayload.complete

/-- `return Ok` of a host operation (rule R156): the return beside the error entry. There is no other (rule R157). -/
def State.returnOk (s : State) : State :=
  ({ s with st := .ok, errIdx := none, ioErr := none } : State).complete

/-- `return v` of a unit operation driven directly: `ST` is written "through raise only" (rules R80 to R103). -/
def State.returnUnit (s : State) (v : Returned) : State := ({ s with ret := some v } : State).complete

/-! ### Acceptance of a request -/

/-- The envelope's first half (43_lifecycle.md rule R132): the results of earlier operations are invalidated. -/
def State.acceptHost (s : State) (i : Instr) : State :=
  { s.clearWords.clearPayload with errIdx := none, ioErr := none, ret := none, ph := .guard, cur := some i }

/-- A unit operation driven directly has no envelope: only the model's own fields are set. -/
def State.acceptUnit (s : State) (i : Instr) : State := { s with ret := none, cur := some i }

/-- Run an operation: accept it when `PH = Ready`, go on with it when it is the one in progress (it was held at a port
call, rule R23), and refuse it otherwise (20_memory.md rule R48 (e), 92_eei_decisions.md D31). -/
def State.run (s : State) (i : Instr) (accept : State → Instr → State) (body : State → Result) : Result :=
  if s.ph = .ready then body (accept s i)
  else if s.cur = some i then body s
  else .refused .overlap

/-- A host operation: its body inside the envelope of rule R132. -/
def hostOp (i : Instr) (body : State → Result) (s : State) : Result := s.run i State.acceptHost body

/-- A unit operation driven directly (95_test_vectors.md P6), or a bus frame's transfer. -/
def unitOp (i : Instr) (body : State → Result) (s : State) : Result := s.run i State.acceptUnit body

/-! ### The Transport Port (20_memory.md rules R44, R45, R50, R53) -/

/-- The port's contract (92_eei_decisions.md D36): an `Ok` of a read carries exactly the bytes asked for, and a transfer
of any other length is reported as an `IoError`; the `Ok` of another call carries nothing. -/
def conform (c : PortCall) (a : PortAnswer) : PortAnswer :=
  match c, a with
  | .read count, .ok bs => if bs.length = count then .ok bs else .ioError (Config.transferError count bs)
  | .openPath _, .ok _ => .ok []
  | .setAddress _, .ok _ => .ok []
  | .write _, .ok _ => .ok []
  | _, .ioError e => .ioError e

/-- What the port does now about the outstanding call: an answer, or none yet (rule R50, U8, U9). -/
def State.reply (s : State) (c : PortCall) : Option PortAnswer :=
  match s.script with
  | a :: _ => a.map (conform c)
  | [] => (Config.portAnswer s.trace c s.polls).map (conform c)

/-- One poll of the port is used up: the script's next entry, or one draw of the free value. -/
def State.polled (s : State) : State :=
  { s with script := s.script.tail, polls := if s.script.isEmpty then s.polls + 1 else s.polls }

/-- Append an event to the port trace (rule R53). -/
def State.record (s : State) (e : PortEvent) : State := { s with trace := s.trace ++ [e] }

/-- One call on the port, in the phase the caller has set: held while there is no answer (10_state.md rule R23,
42_executor.md rule R106), else the event is recorded and the caller goes on with the answer (rule R105). The core has a
step whatever the port does (rule R50). -/
def portCall (c : PortCall) (onError : IoError → State → State) (onOk : List Byte → State → State) (s : State) :
    State :=
  match s.reply c with
  | none => s.polled
  | some (.ioError e) => onError e (s.polled.record (.call c (.ioError e)))
  | some (.ok bs) => onOk bs (s.polled.record (.call c (.ok bs)))

/-- "surfaces" the port's error "unchanged" (42_executor.md rule R104, 60_exceptions.md rule R151). -/
def raiseTransport (e : IoError) (s : State) : State := s.raise (.transport e)

end Sys2Proof.Machine
end

