-- ==== Sys2Proof/Machine/Flags.lean ====
section
/-! DEFINITION. The status and control codes (10_state.md rules R21 and R25), the scratch `CRC` after the codec's loops
(rule R24), and what the host reads after an operation (rule R33). -/

namespace Sys2Proof.Machine

/-- `LS[1:0]` (rule R21). -/
def Lifecycle.code (l : Lifecycle) : BitVec 2 :=
  match l with
  | .uninitialized => 0
  | .idle => 1
  | .measuring => 2

/-- `ST[1:0]` (rule R25). -/
def Status.code (s : Status) : BitVec 2 :=
  match s with
  | .ok => 0
  | .transportError => 1
  | .checksumError => 2
  | .stateError => 3

/-- `CRC` after the checksums of these words have been generated in order (rule R24, 41_codec.md rule R90). -/
def crcAfterWords (ws : List Word) (crc : Option Byte) : Option Byte := (ws.getLast?.map wordChecksum).or crc

/-- `CRC` after these triplets have been examined in order (rule R24, 40_checksum.md rule R81). -/
def crcAfterTriplets (ts : List Triplet) (crc : Option Byte) : Option Byte :=
  (ts.getLast?.map fun t => checksum t.h t.l).or crc

/-- A payload the host reads after `Ok` (10_state.md rule R33). -/
inductive Payload where
  | none
  | bool (b : Bool)
  | u32 (v : DWord)
  | string (bs : List Byte)
  | record (r : MeasurementRecord)
deriving DecidableEq, Repr

/-- What the host sees of a completed host operation (rule R33): the tagged result. -/
inductive HostResult where
  | ok (p : Payload)
  | transportError (e : IoError)
  | checksumError (i : Nat)
  | stateError
deriving DecidableEq, Repr

/-- `RSTR[0 .. RSTRLEN-1]`, if every one of these bytes and the length hold a value (10_state.md rule R27). -/
def State.readString (s : State) : Option (List Byte) :=
  match s.rstrlen with
  | some l => if l ≤ s.rstr.length then some (s.rstr.take l) else none
  | none => none

/-- The host's reading of the payload register that operation `i` writes (rule R27, rule R33); the other operations
return none. A register that holds no value faults (rule R32). -/
def State.readPayload (s : State) (i : Instr) : Except Fault Payload :=
  match i with
  | .getSerialNumber | .getProductNumber => (valueOf .rstr s.readString).map .string
  | .isNewDataAvailable => (valueOf .rbool s.rbool).map .bool
  | .getMeasurement => (valueOf .rrec s.rrec).map .record
  | .getAutoCleanInterval => (valueOf .ru32 s.ru32).map .u32
  | .init | .reset | .start | .stop | .setAutoCleanInterval _ | .generateChecksum _ _ | .verifyChecksum _ _ _
  | .encode _ _ | .decode _ | .writeCommand _ | .writeCommandWithArgs _ _ | .readDelayed _ _ _ | .readCommand _ _
  | .reserved0A0B _ | .reserved0C0F _ | .reserved181F _ | .busReset | .busGetSerialNumber | .busGetProductNumber
  | .busStart _ _ | .busStop | .busIsNewDataAvailable | .busGetMeasurement | .busGetAutoCleanInterval
  | .busSetAutoCleanInterval _ _ _ _ => .ok .none

/-- The host's reading of the result of operation `i`, which it issued last (rule R33). -/
def State.hostResult (s : State) (i : Instr) : Except Fault HostResult :=
  match s.st with
  | .ok => (s.readPayload i).map .ok
  | .transportError => (valueOf .ioErr s.ioErr).map .transportError
  | .checksumError => (valueOf .errIdx s.errIdx).map .checksumError
  | .stateError => .ok .stateError

end Sys2Proof.Machine
end

