-- ==== Sys2Proof/Machine/Codec.lean ====
section
/-! DEFINITION. The Frame Codec (41_codec.md rules R90 and R91): filling `TXB`, checking `RXB`, and the two operations
driven directly. -/

namespace Sys2Proof.Machine

/-- The body of encode (rule R90): `TXB` holds the frame and nothing at or beyond `TXLEN`. -/
def State.encodeFrame (s : State) (opcode : Word) (args : List Word) : State :=
  { s with ph := .encode, idx := args.length, crc := crcAfterWords args s.crc,
           txb := Memory.writeBytes [] 0 (frameOf opcode args), txlen := 2 + 3 * args.length }

/-- What the loop of decode reads from triplet `j` on, `n` triplets at most: one `MemRead(3*IDX, 3)` after another, and
none behind a triplet that fails, since "words after it are not examined" (rule R91). None when a byte it reads holds no
value. -/
def Memory.readTriplets (m : Memory) (j n : Nat) : Option (List Triplet) :=
  match n with
  | 0 => some []
  | n + 1 =>
    match Memory.readBytes m (3 * j) 3 with
    | some [h, l, c] =>
      if verify h l c then (Memory.readTriplets m (j + 1) n).map (⟨h, l, c⟩ :: ·) else some [⟨h, l, c⟩]
    | _ => none

/-- The loop of decode (rule R91) over the triplets it reads of a response of `n` words: all words are committed, or the
least failing index is raised and none is. -/
def State.decodeTriplets (s : State) (n : Nat) (ts : List Triplet) (onOk : State → State) : State :=
  match firstBad ts with
  | some i =>
    ({ s.clearWords with ph := .decode, idx := i, crc := crcAfterTriplets (ts.take (i + 1)) s.crc } : State).raise
      (.checksum i)
  | none =>
    onOk { s with ph := .decode, idx := n, crc := crcAfterTriplets ts s.crc, w := ts.map Triplet.word, nw := n }

/-- `encode(opcode, args)` (rule R90): returns `TXLEN`; more than `MAXW` words have no meaning. -/
def execEncode (opcode : Word) (args : List Word) (s : State) : Result :=
  unitOp (.encode opcode args)
    (fun s =>
      if args.length ≤ s.cfg.maxW then
        .next ((s.encodeFrame opcode args).returnUnit (.length (s.encodeFrame opcode args).txlen))
      else .refused (.overCapacity args.length)) s

/-- `decode(n)` (rule R91) on `RXB`; `n > MAXW` and `RXLEN != 3*n` are violated preconditions. -/
def execDecode (n : Nat) (s : State) : Result :=
  unitOp (.decode n)
    (fun s =>
      if n ≤ s.cfg.maxW then
        if s.rxlen = 3 * n then
          withValue .rxb (Memory.readTriplets s.rxb 0 n) fun ts =>
            .next (s.decodeTriplets n ts fun s => s.returnUnit .ok)
        else .refused (.responseLength s.rxlen n)
      else .refused (.overCapacity n)) s

end Sys2Proof.Machine
end

