-- ==== Sys2Proof/Machine/Executor.lean ====
section
/-! DEFINITION. The Command Executor (42_executor.md rules R100 to R106): the write stage, the settling delay, the read
stage, and the four operations driven directly. `onOk` is what the calling operation does next. -/

namespace Sys2Proof.Machine

/-- `PortWrite(bytes)` (rule R100, rule R101). -/
def State.writeStage (s : State) (bytes : List Byte) (onOk : State → State) : State :=
  portCall (.write bytes) raiseTransport (fun _ s => onOk s) { s with ph := .write }

/-- `Delay(us)` (60_exceptions.md rule R160): an event, and none at all when `us = 0` (rule R102). -/
def State.settle (s : State) (us : Nat) : State :=
  if us = 0 then s else ({ s with ph := .wait } : State).record (.delay us)

/-- `RXB[0 .. 3*n-1] <- bytes ; RXLEN <- 3*n` (rule R102). -/
def State.loadResponse (s : State) (n : Nat) (bs : List Byte) : State :=
  { s with rxb := Memory.writeBytes [] 0 bs, rxlen := 3 * n }

/-- After an `IoError` on a read `RXB`, `NW` and `W` hold no value (20_memory.md rule R50, rule R102 corner cases). -/
def State.dropResponse (s : State) : State := { s.clearWords with rxb := [], rxlen := 0 }

/-- `PortRead(3*n)` and decode (rule R102). -/
def State.readStage (s : State) (n : Nat) (onOk : State → State) : State :=
  portCall (.read (3 * n)) (fun e s => raiseTransport e s.dropResponse)
    (fun bs s => (s.loadResponse n bs).decodeTriplets n (tripletsOf bs) onOk) { s with ph := .read }

/-- "encode with args, write" (rule R100, rule R101): encode unless the write is already outstanding, then write exactly
`TXB[0 .. TXLEN-1]`. -/
def State.sendCommand (s : State) (opcode : Word) (args : List Word) (onOk : State → State) : Result :=
  let s := if s.ph = .write then s else s.encodeFrame opcode args
  withValue .txb (Memory.readBytes s.txb 0 s.txlen) fun bytes => .next (s.writeStage bytes onOk)

/-- "write the bare opcode command (no args), then ... issue a bus read of `num_words*3` bytes and decode" (rule
R102). -/
def State.query (s : State) (opcode : Word) (delay n : Nat) (onOk : State → State) : Result :=
  if s.ph = .read then .next (s.readStage n onOk)
  else s.sendCommand opcode [] fun s => (s.settle delay).readStage n onOk

/-- A query whose words the calling operation then converts (43_lifecycle.md rules R123, R124, R127, R128 and R129):
`pack` follows exactly when decode has committed them, which is when the query ends in `PH = Decode`. -/
def State.queryThen (s : State) (opcode : Word) (delay n : Nat) (pack : State → Result) : Result :=
  match s.query opcode delay n fun s => s with
  | .next t => if t.ph = .decode then pack t else .next t
  | .fault f => .fault f
  | .refused e => .refused e

/-- `write_command(opcode)` (rule R100). -/
def execWriteCommand (opcode : Word) (s : State) : Result :=
  unitOp (.writeCommand opcode) (fun s => s.sendCommand opcode [] fun s => s.returnUnit .ok) s

/-- `write_command_with_args(opcode, words)` (rule R101). -/
def execWriteCommandWithArgs (opcode : Word) (words : List Word) (s : State) : Result :=
  unitOp (.writeCommandWithArgs opcode words)
    (fun s =>
      if words.length ≤ s.cfg.maxW then s.sendCommand opcode words fun s => s.returnUnit .ok
      else .refused (.overCapacity words.length)) s

/-- `read_delayed(opcode, delay, num_words)` (rule R102). -/
def execReadDelayed (opcode : Word) (delay n : Nat) (s : State) : Result :=
  unitOp (.readDelayed opcode delay n)
    (fun s =>
      if n ≤ s.cfg.maxW then s.query opcode delay n fun s => s.returnUnit .ok
      else .refused (.overCapacity n)) s

/-- `read_command(opcode, num_words)` = `read_delayed(opcode, 0, num_words)` (rule R103). -/
def execReadCommand (opcode : Word) (n : Nat) (s : State) : Result :=
  unitOp (.readCommand opcode n)
    (fun s =>
      if n ≤ s.cfg.maxW then s.query opcode 0 n fun s => s.returnUnit .ok
      else .refused (.overCapacity n)) s

end Sys2Proof.Machine
end

