-- ==== Sys2Proof/Machine/Bus.lean ====
section
/-! DEFINITION. The bus frames of opcode_table.json (30_encoding.md rules R60, R67, R72): each is the executor
transaction that carries it, with the response its row names, outside the lifecycle. DEDUCED (log 11). -/

namespace Sys2Proof.Machine

/-- What a bus transaction that ends well returns: the executor's `Ok` (42_executor.md rule R104). -/
def State.returnTransfer (s : State) : State := s.returnUnit .ok

/-- `CMD0` with `OPC_RESET`, no response (rule R67). -/
def execBusReset (s : State) : Result :=
  unitOp .busReset (fun s => s.sendCommand s.cfg.opcReset [] State.returnTransfer) s

/-- `CMD0` with `OPC_SERIAL`, `RSP16` after `DLY_SERIAL` (rule R67). -/
def execBusGetSerialNumber (s : State) : Result :=
  unitOp .busGetSerialNumber
    (fun s => s.query s.cfg.opcSerial s.cfg.dlySerial Config.strWords State.returnTransfer) s

/-- `CMD0` with `OPC_PRODUCT`, `RSP16` after `DLY_PRODUCT` (rule R67). -/
def execBusGetProductNumber (s : State) : Result :=
  unitOp .busGetProductNumber
    (fun s => s.query s.cfg.opcProduct s.cfg.dlyProduct Config.strWords State.returnTransfer) s

/-- `CMD1` with `OPC_START` and the frame's argument word, no response (rule R67). -/
def execBusStart (a : Word) (c : Byte) (s : State) : Result :=
  unitOp (.busStart a c)
    (fun s => if c = wordChecksum a then s.sendCommand s.cfg.opcStart [a] State.returnTransfer
      else .refused .badFrame) s

/-- `CMD0` with `OPC_STOP`, no response (rule R67). -/
def execBusStop (s : State) : Result :=
  unitOp .busStop (fun s => s.sendCommand s.cfg.opcStop [] State.returnTransfer) s

/-- `CMD0` with `OPC_DATA_READY`, `RSP1` after `DLY_DATA_READY` (rule R67). -/
def execBusIsNewDataAvailable (s : State) : Result :=
  unitOp .busIsNewDataAvailable
    (fun s => s.query s.cfg.opcDataReady s.cfg.dlyDataReady Config.boolWords State.returnTransfer) s

/-- `CMD0` with `OPC_READ_MEAS`, `RSP20` after `DLY_MEAS` (rule R67). -/
def execBusGetMeasurement (s : State) : Result :=
  unitOp .busGetMeasurement
    (fun s => s.query s.cfg.opcReadMeas s.cfg.dlyMeas Config.measWords State.returnTransfer) s

/-- `CMD0` with `OPC_AUTOCLEAN`, `RSP2` after `DLY_AUTOCLEAN` (rule R67). -/
def execBusGetAutoCleanInterval (s : State) : Result :=
  unitOp .busGetAutoCleanInterval
    (fun s => s.query s.cfg.opcAutoclean s.cfg.dlyAutoclean Config.acWords State.returnTransfer) s

/-- `CMD2` with `OPC_AUTOCLEAN` and the frame's two argument words, no response (rule R67). -/
def execBusSetAutoCleanInterval (a : Word) (c : Byte) (b : Word) (d : Byte) (s : State) : Result :=
  unitOp (.busSetAutoCleanInterval a c b d)
    (fun s =>
      if c = wordChecksum a ∧ d = wordChecksum b then
        s.sendCommand s.cfg.opcAutoclean [a, b] State.returnTransfer
      else .refused .badFrame) s

end Sys2Proof.Machine
end

