-- ==== Sys2Proof/Machine/Checksum.lean ====
section
/-! DEFINITION. The Checksum Engine's operations (40_checksum.md rules R80 and R81), driven directly. -/

namespace Sys2Proof.Machine

/-- `generate_checksum(b0, b1)` (rule R80): the checksum is left in `CRC` and returned. -/
def execGenerateChecksum (b0 b1 : Byte) (s : State) : Result :=
  unitOp (.generateChecksum b0 b1)
    (fun s => .next (({ s with crc := some (checksum b0 b1) } : State).returnUnit (.byte (checksum b0 b1)))) s

/-- `verify_checksum(b0, b1, c)` (rule R81): one bit; `CRC` is left holding the generated checksum. -/
def execVerifyChecksum (b0 b1 c : Byte) (s : State) : Result :=
  unitOp (.verifyChecksum b0 b1 c)
    (fun s => .next (({ s with crc := some (checksum b0 b1) } : State).returnUnit (.bit (verify b0 b1 c)))) s

end Sys2Proof.Machine
end

