-- ==== Sys2Proof/Machine/Operands.lean ====
section
/-! DEFINITION. Operand assembly: how response words become a payload (30_encoding.md rules R62 to R66). -/

namespace Sys2Proof.Machine

/-- `W[i]`, if the register holds a value (10_state.md rule R22, rule R32). -/
def State.readW (s : State) (i : Nat) : Option Word := if i < s.nw then s.w[i]? else none

/-- `W[i] ++ W[i+1]` (20_memory.md rule R42). -/
def State.readW32 (s : State) (i : Nat) : Option DWord :=
  match s.readW i, s.readW (i + 1) with
  | some a, some b => some (catWords a b)
  | _, _ => none

/-- `BOOL_OF_WORD` (00_scope.md rule R5, 30_encoding.md rule R66). -/
def boolOfWord (cfg : Config) (w : Word) : Bool := !cfg.falseWords.contains w

/-- The data bytes of a list of words in bus order: `B[2i]`, `B[2i+1]` (rule R65). -/
def bytesOfWords (ws : List Word) : List Byte := ws.flatMap fun w => [hiByte w, loByte w]

/-- The bytes before the first `0x00`, or all of them when there is none (rule R65). -/
def beforeNul (bs : List Byte) : List Byte := bs.takeWhile fun b => b != 0x00

/-- The words of an identity string, if every one of the registers holds a value (rule R65). -/
def State.stringWords (s : State) (n : Nat) : Option (List Word) :=
  if n ≤ s.nw ∧ n ≤ s.w.length then some (s.w.take n) else none

/-- The Measurement Record of twenty words (rule R64). -/
def State.record20 (s : State) : Option MeasurementRecord := do
  return { mc0 := ← s.readW32 0, mc1 := ← s.readW32 2, mc2 := ← s.readW32 4, mc3 := ← s.readW32 6,
           nc0 := ← s.readW32 8, nc1 := ← s.readW32 10, nc2 := ← s.readW32 12, nc3 := ← s.readW32 14,
           nc4 := ← s.readW32 16, tps := ← s.readW32 18 }

/-- The field `RREC[k]` of a record (rule R64). -/
def MeasurementRecord.fields (r : MeasurementRecord) : List DWord :=
  [r.mc0, r.mc1, r.mc2, r.mc3, r.nc0, r.nc1, r.nc2, r.nc3, r.nc4, r.tps]

/-! ### The payload registers (10_state.md rule R27) -/

/-- `PH <- Pack ; RBOOL <- b`. -/
def State.putBool (s : State) (b : Bool) : State := { s with ph := .pack, rbool := some b }

/-- `PH <- Pack ; RU32 <- u`. -/
def State.putU32 (s : State) (u : DWord) : State := { s with ph := .pack, ru32 := some u }

/-- `PH <- Pack ; RSTRLEN <- L ; RSTR[0 .. L-1] <- bs`, where `L` is the length of `bs`. -/
def State.putString (s : State) (bs : List Byte) : State :=
  { s with ph := .pack, rstr := bs, rstrlen := some bs.length }

/-- `PH <- Pack ; RREC[0..9] <- r`. -/
def State.putRecord (s : State) (r : MeasurementRecord) : State := { s with ph := .pack, rrec := some r }

/-! ### The conversions: a word register that holds no value faults (10_state.md rule R32) -/

/-- `RBOOL <- BOOL_OF_WORD(W[0]) ; return Ok` (43_lifecycle.md rule R127). -/
def State.packBool (s : State) : Result :=
  withValue .w (s.readW 0) fun w => .next (s.putBool (boolOfWord s.cfg w)).returnOk

/-- `RU32 <- W[0] ++ W[1] ; return Ok` (43_lifecycle.md rule R129). -/
def State.packU32 (s : State) : Result := withValue .w (s.readW32 0) fun u => .next (s.putU32 u).returnOk

/-- `RSTR`, `RSTRLEN` from the first `n` words, then `return Ok` (43_lifecycle.md rule R123, 30_encoding.md rule R65). -/
def State.packString (s : State) (n : Nat) : Result :=
  withValue .w (s.stringWords n) fun ws => .next (s.putString (beforeNul (bytesOfWords ws))).returnOk

/-- `RREC[k] <- W[2k] ++ W[2k+1]` for all ten fields, then `return Ok` (43_lifecycle.md rule R128). -/
def State.packRecord (s : State) : Result := withValue .w s.record20 fun r => .next (s.putRecord r).returnOk

end Sys2Proof.Machine
end

