-- ==== Sys2Proof/Machine/Lifecycle.lean ====
section
/-! DEFINITION. The Sensor Lifecycle: the ten host operations (43_lifecycle.md rules R120 to R132). -/

namespace Sys2Proof.Machine

/-- `PortSetAddress(BUS_ADDR)`, and `LS <- Idle` when it answers `Ok` (rule R121). -/
def State.addressStage (s : State) : State :=
  portCall (.setAddress s.cfg.busAddr) raiseTransport (fun _ s => ({ s with ls := .idle } : State).returnOk)
    { s with ph := .addr }

/-- `PortOpen(BUS_PATH)`, then the address (rule R121). -/
def State.openStage (s : State) : State :=
  portCall (.openPath s.cfg.busPath) raiseTransport (fun _ s => s.addressStage) { s with ph := .openPort }

/-- The guard of the operations "valid in `Idle` or `Measuring`" (rule R120). -/
def State.whenInitialized (s : State) (body : State → Result) : Result :=
  match s.ls with
  | .uninitialized => .next (s.raise .state)
  | .idle => body s
  | .measuring => body s

/-- The guard of the operations "valid only in `Measuring`" (rule R120). -/
def State.whenMeasuring (s : State) (body : State → Result) : Result :=
  match s.ls with
  | .uninitialized => .next (s.raise .state)
  | .idle => .next (s.raise .state)
  | .measuring => body s

/-- `init()` (rule R121). -/
def execInit (s : State) : Result :=
  hostOp .init
    (fun s =>
      match s.ls with
      | .uninitialized => .next (if s.ph = .addr then s.addressStage else s.openStage)
      | .idle => .next (s.raise .state)
      | .measuring => .next (s.raise .state)) s

/-- `reset()` (rule R122): no state guard, and `LS` is not written. -/
def execReset (s : State) : Result :=
  hostOp .reset (fun s => s.sendCommand s.cfg.opcReset [] State.returnOk) s

/-- `get_serial_number()` (rule R123). -/
def execGetSerialNumber (s : State) : Result :=
  hostOp .getSerialNumber
    (fun s => s.whenInitialized fun s =>
      s.queryThen s.cfg.opcSerial s.cfg.dlySerial Config.strWords fun s => s.packString Config.strWords) s

/-- `get_product_number()` (rule R124). -/
def execGetProductNumber (s : State) : Result :=
  hostOp .getProductNumber
    (fun s => s.whenInitialized fun s =>
      s.queryThen s.cfg.opcProduct s.cfg.dlyProduct Config.strWords fun s => s.packString Config.strWords) s

/-- `start()` (rule R125): a no-op success while `Measuring`. -/
def execStart (s : State) : Result :=
  hostOp .start
    (fun s =>
      match s.ls with
      | .uninitialized => .next (s.raise .state)
      | .idle => s.sendCommand s.cfg.opcStart [s.cfg.startArg] fun s => ({ s with ls := .measuring } : State).returnOk
      | .measuring => .next s.returnOk) s

/-- `stop()` (rule R126): a no-op success while `Idle`. -/
def execStop (s : State) : Result :=
  hostOp .stop
    (fun s =>
      match s.ls with
      | .uninitialized => .next (s.raise .state)
      | .idle => .next s.returnOk
      | .measuring => s.sendCommand s.cfg.opcStop [] fun s => ({ s with ls := .idle } : State).returnOk) s

/-- `is_new_data_available()` (rule R127). -/
def execIsNewDataAvailable (s : State) : Result :=
  hostOp .isNewDataAvailable
    (fun s => s.whenMeasuring fun s =>
      s.queryThen s.cfg.opcDataReady s.cfg.dlyDataReady Config.boolWords State.packBool) s

/-- `get_measurement()` (rule R128). -/
def execGetMeasurement (s : State) : Result :=
  hostOp .getMeasurement
    (fun s => s.whenMeasuring fun s =>
      s.queryThen s.cfg.opcReadMeas s.cfg.dlyMeas Config.measWords State.packRecord) s

/-- `get_auto_clean_interval()` (rule R129): always a bus transaction (10_state.md rule R29). -/
def execGetAutoCleanInterval (s : State) : Result :=
  hostOp .getAutoCleanInterval
    (fun s => s.whenInitialized fun s =>
      s.queryThen s.cfg.opcAutoclean s.cfg.dlyAutoclean Config.acWords State.packU32) s

/-- `set_auto_clean_interval(seconds)` (rule R130). -/
def execSetAutoCleanInterval (seconds : DWord) (s : State) : Result :=
  hostOp (.setAutoCleanInterval seconds)
    (fun s => s.whenInitialized fun s =>
      s.sendCommand s.cfg.opcAutoclean [hiWord seconds, loWord seconds] State.returnOk) s

end Sys2Proof.Machine
end

