-- ==== Sys2Proof/Machine/Reserved.lean ====
section
/-! DEFINITION. Host requests with a reserved OPID (30_encoding.md rule R69 (a)): "a model refuses it, makes no port call
and changes no state". -/

namespace Sys2Proof.Machine

/-- OPID 0x0A and 0x0B (rule R69 (a), 92_eei_decisions.md D28). -/
def execReserved0A0B (k : BitVec 1) (_ : State) : Result := .refused (.reservedOpid ((0x5 : BitVec 4) ++ k))

/-- OPID 0x0C to 0x0F (rule R69 (a), 92_eei_decisions.md D28). -/
def execReserved0C0F (k : BitVec 2) (_ : State) : Result := .refused (.reservedOpid ((0x3 : BitVec 3) ++ k))

/-- OPID 0x18 to 0x1F (rule R69 (a), 92_eei_decisions.md D28). -/
def execReserved181F (k : BitVec 3) (_ : State) : Result := .refused (.reservedOpid ((0x3 : BitVec 2) ++ k))

end Sys2Proof.Machine
end

