-- ==== Sys2Proof/Machine/Dispatch.lean ====
section
/-! DEFINITION. One arm per operation: what it does to the machine. -/

namespace Sys2Proof.Machine

/-- An operation runs, holds at a port call, faults or is refused. -/
def exec (i : Instr) (s : State) : Host.Outcome State Fault Refusal :=
  match i with
  | .init => Sys2Proof.Machine.execInit s
  | .reset => Sys2Proof.Machine.execReset s
  | .getSerialNumber => Sys2Proof.Machine.execGetSerialNumber s
  | .getProductNumber => Sys2Proof.Machine.execGetProductNumber s
  | .start => Sys2Proof.Machine.execStart s
  | .stop => Sys2Proof.Machine.execStop s
  | .isNewDataAvailable => Sys2Proof.Machine.execIsNewDataAvailable s
  | .getMeasurement => Sys2Proof.Machine.execGetMeasurement s
  | .getAutoCleanInterval => Sys2Proof.Machine.execGetAutoCleanInterval s
  | .setAutoCleanInterval seconds => Sys2Proof.Machine.execSetAutoCleanInterval seconds s
  | .generateChecksum b0 b1 => Sys2Proof.Machine.execGenerateChecksum b0 b1 s
  | .verifyChecksum b0 b1 c => Sys2Proof.Machine.execVerifyChecksum b0 b1 c s
  | .encode opcode args => Sys2Proof.Machine.execEncode opcode args s
  | .decode n => Sys2Proof.Machine.execDecode n s
  | .writeCommand opcode => Sys2Proof.Machine.execWriteCommand opcode s
  | .writeCommandWithArgs opcode words => Sys2Proof.Machine.execWriteCommandWithArgs opcode words s
  | .readDelayed opcode delay n => Sys2Proof.Machine.execReadDelayed opcode delay n s
  | .readCommand opcode n => Sys2Proof.Machine.execReadCommand opcode n s
  | .reserved0A0B k => Sys2Proof.Machine.execReserved0A0B k s
  | .reserved0C0F k => Sys2Proof.Machine.execReserved0C0F k s
  | .reserved181F k => Sys2Proof.Machine.execReserved181F k s
  | .busReset => Sys2Proof.Machine.execBusReset s
  | .busGetSerialNumber => Sys2Proof.Machine.execBusGetSerialNumber s
  | .busGetProductNumber => Sys2Proof.Machine.execBusGetProductNumber s
  | .busStart a c => Sys2Proof.Machine.execBusStart a c s
  | .busStop => Sys2Proof.Machine.execBusStop s
  | .busIsNewDataAvailable => Sys2Proof.Machine.execBusIsNewDataAvailable s
  | .busGetMeasurement => Sys2Proof.Machine.execBusGetMeasurement s
  | .busGetAutoCleanInterval => Sys2Proof.Machine.execBusGetAutoCleanInterval s
  | .busSetAutoCleanInterval a c b d => Sys2Proof.Machine.execBusSetAutoCleanInterval a c b d s

end Sys2Proof.Machine
end

