-- ==== Sys2Proof/Machine/Fetch.lean ====
section
/-! DEFINITION. Where the next operation comes from: the core fetches no instructions (10_state.md rule R23), the host
presents requests one at a time (20_memory.md rule R48, 43_lifecycle.md rule R132). -/

namespace Sys2Proof.Machine

/-- What the next step is about. -/
inductive Fetched where
  /-- The operation in progress, held at a port call (rule R23). -/
  | resume (i : Instr)
  /-- No operation in progress and no request: the core waits (70_reset_and_hazards.md rule R170). -/
  | idle
  /-- The host's next request names an operation; `rest` are the requests after it. -/
  | run (i : Instr) (rest : List Request)
  /-- The host's next request names none. -/
  | reject (e : DecodeError)
deriving DecidableEq, Repr

/-- The operation in progress, else the host's next request. -/
def State.fetch (s : State) : Fetched :=
  match s.cur with
  | some i => .resume i
  | none =>
    match s.requests with
    | [] => .idle
    | r :: rest =>
      match decode s.cfg r with
      | .ok i => .run i rest
      | .error e => .reject e

/-- The request has been presented: the next one moves up. -/
def State.take (s : State) (rest : List Request) : State := { s with requests := rest }

/-- `s` with a request the very next step takes: the core is ready, nothing is in progress, and the request comes before
all others. A frame written in the table's suggested opcodes needs a configuration with those opcodes (log 4). -/
def State.place (s : State) (nbits : Nat) (r : Request) : State :=
  { s with requests := r :: s.requests, ph := .ready, cur := none,
           cfg := if nbits ≤ 8 then s.cfg else s.cfg.withSuggestedOpcodes }

end Sys2Proof.Machine
end

