-- ==== Sys2Proof/Machine/Step.lean ====
section
/-! DEFINITION. One step of the machine, and how an instruction word is put where the next step takes it. -/

namespace Sys2Proof.Machine

/-- One step: the operation in progress goes on; with none in progress the host's next request is taken, decoded and run;
with no request the core waits in `PH = Ready` (70_reset_and_hazards.md rules R170 and R186, 20_memory.md rule R48 (a)). -/
def step (s : State) : Host.Outcome State Fault Refusal :=
  match s.fetch with
  | .resume i => exec i s
  | .idle => .next s
  | .run i rest => exec i (s.take rest)
  | .reject e => .refused (.undecoded e)

/-- `s` with the instruction of a table word as the request the very next step takes (log 1, log 4). -/
def State.withFetchWord (s : State) (nbits w : Nat) : State := s.place nbits (tableRequest nbits w)

end Sys2Proof.Machine
end

