-- ==== Sys2Proof/Safety.lean ====
section
/-! DEFINITION. What the statements speak of: the states a run keeps to (`State.Inv`), the spec's tables (the guard
table, the bus opcode map), and the parts of an expected state. Nothing here is used by the machine. -/

namespace Sys2Proof.Machine

/-! ### Buffers -/

/-- The bytes at `a`, `a+1`, ... as (index, byte) pairs. -/
def bytesAt (a : Nat) (bs : List Byte) : Memory :=
  match bs with
  | [] => []
  | b :: rest => (a, b) :: bytesAt (a + 1) rest

/-- A buffer that holds exactly these bytes, at indices 0, 1, ... (20_memory.md rule R40). -/
def bufferOf (bs : List Byte) : Memory := bytesAt 0 bs

/-- The valid indices of a buffer are exactly `0 .. len-1` (20_memory.md rule R40). -/
abbrev holdsUpTo (m : Memory) (len : Nat) : Prop := m.map Prod.fst = List.range len

/-- Byte `k` of a byte string, 0 when there is none; used below the string's length only. -/
def byteAt (bs : List Byte) (k : Nat) : Byte := bs.getD k 0

/-- Triplet `j` of a response (30_encoding.md rule R61). -/
def tripletAt (bs : List Byte) (j : Nat) : Triplet := ⟨byteAt bs (3 * j), byteAt bs (3 * j + 1), byteAt bs (3 * j + 2)⟩

/-- Triplet `j` carries the checksum of its two data bytes (30_encoding.md rule R61). -/
abbrev goodTriplet (bs : List Byte) (j : Nat) : Prop :=
  checksum (tripletAt bs j).h (tripletAt bs j).l = (tripletAt bs j).c

/-- A buffer holds triplet `j` whole, and it carries the checksum of its two data bytes (30_encoding.md rule R61). -/
def holdsGood (m : Memory) (j : Nat) : Prop :=
  ∃ h l, Memory.read m (3 * j) = some h ∧ Memory.read m (3 * j + 1) = some l ∧
    Memory.read m (3 * j + 2) = some (checksum h l)

/-- How many bits of a byte are 1. -/
def bitCount (b : Byte) : Nat := (List.range 8).countP fun k => b.getLsbD k

/-- `k` is the least index whose triplet fails (41_codec.md rule R91). -/
abbrev leastBad (bs : List Byte) (n k : Nat) : Prop := k < n ∧ ¬ goodTriplet bs k ∧ ∀ j < k, goodTriplet bs j

/-! ### The guard table and the bus opcode map -/

/-- What an operation does in a lifecycle state (43_lifecycle.md rule R120). -/
inductive Cell where
  | run
  | noOp
  | stateError
deriving DecidableEq, Repr

/-- A row of the guard table: the cells of `Uninitialized`, `Idle` and `Measuring`. -/
def cellOf (l : Lifecycle) (u i m : Cell) : Cell :=
  match l with
  | .uninitialized => u
  | .idle => i
  | .measuring => m

/-- The table of 43_lifecycle.md rule R120, row by row. An operation that is no host operation has no guard. -/
def guardCell (i : Instr) (l : Lifecycle) : Cell :=
  match i with
  | .init => cellOf l .run .stateError .stateError
  | .reset => cellOf l .run .run .run
  | .getSerialNumber => cellOf l .stateError .run .run
  | .getProductNumber => cellOf l .stateError .run .run
  | .start => cellOf l .stateError .run .noOp
  | .stop => cellOf l .stateError .noOp .run
  | .isNewDataAvailable => cellOf l .stateError .stateError .run
  | .getMeasurement => cellOf l .stateError .stateError .run
  | .getAutoCleanInterval => cellOf l .stateError .run .run
  | .setAutoCleanInterval _ => cellOf l .stateError .run .run
  | .generateChecksum _ _ | .verifyChecksum _ _ _ | .encode _ _ | .decode _ | .writeCommand _
  | .writeCommandWithArgs _ _ | .readDelayed _ _ _ | .readCommand _ _ | .reserved0A0B _ | .reserved0C0F _
  | .reserved181F _ | .busReset | .busGetSerialNumber | .busGetProductNumber | .busStart _ _ | .busStop
  | .busIsNewDataAvailable | .busGetMeasurement | .busGetAutoCleanInterval | .busSetAutoCleanInterval _ _ _ _ => .run

/-- What an operation puts on the bus and expects back (30_encoding.md rule R67, 42_executor.md rules R100 to R103). -/
inductive Exchange where
  /-- No frame is sent. -/
  | none
  /-- A frame is written. -/
  | command (opcode : Word) (args : List Word)
  /-- A bare opcode is written, the delay passes, and `n` words are read. -/
  | query (opcode : Word) (delay n : Nat)
deriving DecidableEq, Repr

/-- The table of 30_encoding.md rule R67 for the host operations and the bus frames, and the executor operations. -/
def exchangeOf (cfg : Config) (i : Instr) : Exchange :=
  match i with
  | .reset | .busReset => .command cfg.opcReset []
  | .start => .command cfg.opcStart [cfg.startArg]
  | .stop | .busStop => .command cfg.opcStop []
  | .setAutoCleanInterval u => .command cfg.opcAutoclean [hiWord u, loWord u]
  | .busStart a _ => .command cfg.opcStart [a]
  | .busSetAutoCleanInterval a _ b _ => .command cfg.opcAutoclean [a, b]
  | .writeCommand opcode => .command opcode []
  | .writeCommandWithArgs opcode words => .command opcode words
  | .getSerialNumber | .busGetSerialNumber => .query cfg.opcSerial cfg.dlySerial 16
  | .getProductNumber | .busGetProductNumber => .query cfg.opcProduct cfg.dlyProduct 16
  | .isNewDataAvailable | .busIsNewDataAvailable => .query cfg.opcDataReady cfg.dlyDataReady 1
  | .getMeasurement | .busGetMeasurement => .query cfg.opcReadMeas cfg.dlyMeas 20
  | .getAutoCleanInterval | .busGetAutoCleanInterval => .query cfg.opcAutoclean cfg.dlyAutoclean 2
  | .readDelayed opcode delay n => .query opcode delay n
  | .readCommand opcode n => .query opcode 0 n
  | .init | .generateChecksum _ _ | .verifyChecksum _ _ _ | .encode _ _ | .decode _ | .reserved0A0B _
  | .reserved0C0F _ | .reserved181F _ => .none

/-- The frame an operation puts on the bus, if it sends one (30_encoding.md rules R60 and R67). -/
def frameFor (cfg : Config) (i : Instr) : Option (List Byte) :=
  match exchangeOf cfg i with
  | .none => none
  | .command opcode args => some (frameOf opcode args)
  | .query opcode _ _ => some (frameOf opcode [])

/-- The operation is one of the three reserved ranges (30_encoding.md rule R69 (a)). -/
def isReserved (i : Instr) : Bool :=
  match i with
  | .reserved0A0B _ | .reserved0C0F _ | .reserved181F _ => true
  | _ => false

/-! ### Parts of an expected state -/

/-- Payload registers invalidated (10_state.md rule R27). -/
def State.noPayload (s : State) : State :=
  { s with rbool := none, ru32 := none, rstr := [], rstrlen := none, rrec := none }

/-- What the envelope of a host operation leaves (43_lifecycle.md rule R132), before the steps of its body: the words and
results of earlier operations are gone. Another operation has no envelope. -/
def State.opened (s : State) (i : Instr) : State :=
  if i.isHostOp then { s.noPayload with nw := 0, w := [], errIdx := none, ioErr := none, ret := none }
  else { s with ret := none }

/-- `PH = Ready` with no operation in progress. -/
def State.closed (s : State) : State := { s with ph := .ready, cur := none }

/-- A host operation has ended `Ok` (60_exceptions.md rule R156). -/
def State.endedOk (s : State) : State := { s with st := .ok, errIdx := none, ioErr := none }.closed

/-- A unit operation driven directly has returned `v`: no status register is written (rules R80 to R103). -/
def State.returned (s : State) (v : Returned) : State := { s with ret := some v }.closed

/-- The operation has ended with `TransportError(e)` (60_exceptions.md rule R156). -/
def State.endedTransport (s : State) (e : IoError) : State :=
  { s.noPayload with st := .transportError, ioErr := some e, errIdx := none }.closed

/-- The operation has ended with `ChecksumError(i)` (60_exceptions.md rule R156). -/
def State.endedChecksum (s : State) (i : Nat) : State :=
  { s.noPayload with st := .checksumError, errIdx := some i, ioErr := none, nw := 0, w := [] }.closed

/-- The operation has ended with `StateError` (60_exceptions.md rule R156). -/
def State.endedState (s : State) : State :=
  { s.noPayload with st := .stateError, errIdx := none, ioErr := none }.closed

/-- encode has run (41_codec.md rule R90): `TXB`, `TXLEN`, `IDX`, and `CRC` when there are argument words. -/
def State.framed (s : State) (opcode : Word) (args : List Word) : State :=
  { s with txb := bufferOf (frameOf opcode args), txlen := 2 + 3 * args.length, idx := args.length,
           crc := (args.getLast?.map wordChecksum).or s.crc }

/-- `RXB` holds these bytes as a response of `n` words (42_executor.md rule R102). -/
def State.received (s : State) (n : Nat) (bs : List Byte) : State := { s with rxb := bufferOf bs, rxlen := 3 * n }

/-- decode has committed these words (41_codec.md rule R91). -/
def State.decoded (s : State) (ws : List Word) : State :=
  { s with w := ws, nw := ws.length, idx := ws.length, crc := (ws.getLast?.map wordChecksum).or s.crc }

/-- The events of a frame written well. -/
def wrote (opcode : Word) (args : List Word) : PortEvent := .call (.write (frameOf opcode args)) (.ok [])

/-- The events of a settling delay: none at all when it is 0 (42_executor.md rule R102). -/
def waited (us : Nat) : List PortEvent := if us = 0 then [] else [.delay us]

/-- The event of a response received. -/
def received (n : Nat) (bs : List Byte) : PortEvent := .call (.read (3 * n)) (.ok bs)

/-- The answers `as` are used up and the events `es` recorded. -/
def State.passed (s : State) (answers : List (Option PortAnswer)) (es : List PortEvent) : State :=
  { s with script := answers, trace := s.trace ++ es }

/-- A bare opcode written well, the delay, and a response of `n` words received. -/
def queried (opcode : Word) (delay n : Nat) (bs : List Byte) : List PortEvent :=
  wrote opcode [] :: (waited delay ++ [received n bs])

/-! ### The states a run keeps to -/

/-- The words: `NW` counts them, and no count exceeds `MAXW` (10_state.md rules R20, R22, R23). -/
abbrev State.wordsInv (s : State) : Prop := s.w.length = s.nw ∧ s.nw ≤ s.cfg.maxW ∧ s.idx ≤ s.cfg.maxW

/-- The buffers: canonical, filled exactly to their lengths, within capacity (10_state.md rule R26, 20_memory.md rules
R40 and R54). -/
abbrev State.buffersInv (s : State) : Prop :=
  holdsUpTo s.txb s.txlen ∧ holdsUpTo s.rxb s.rxlen ∧ s.txlen ≤ 2 + 3 * s.cfg.maxW ∧ s.rxlen ≤ 3 * s.cfg.maxW

/-- A host operation is in progress: its envelope has invalidated the results of earlier operations. -/
def State.hostBusy (s : State) : Bool := s.cur.any Instr.isHostOp

/-- The status registers: `ERRIDX` holds a value only with a ChecksumError and `IOERR` only with a TransportError, and
each does so except while a host operation is in progress (10_state.md rule R25, 43_lifecycle.md rule R132). -/
abbrev State.statusInv (s : State) : Prop :=
  (s.errIdx ≠ none → s.st = .checksumError) ∧ (s.ioErr ≠ none → s.st = .transportError) ∧
  (∀ i ∈ s.errIdx, i < s.cfg.maxW) ∧
  (s.hostBusy = false → s.st = .checksumError → s.errIdx ≠ none) ∧
  (s.hostBusy = false → s.st = .transportError → s.ioErr ≠ none) ∧
  (s.hostBusy = true → s.errIdx = none ∧ s.ioErr = none)

/-- Which payload registers hold a value. -/
def State.payloads (s : State) : List Bool :=
  [s.rbool.isSome, s.ru32.isSome, s.rstrlen.isSome, s.rrec.isSome].filter id

/-- The payload registers: at most one holds a value, only after `Ok` and never while a host operation is in progress;
a string is as long as `RSTRLEN` says, at most 32 bytes (10_state.md rule R27). -/
abbrev State.payloadInv (s : State) : Prop :=
  s.payloads.length ≤ 1 ∧ (s.payloads ≠ [] → s.st = .ok) ∧ (s.hostBusy = true → s.payloads = []) ∧
  s.rstr.length = s.rstrlen.getD 0 ∧ s.rstr.length ≤ 32

/-- A phase in which the core rests between steps: ready, or held at a port call (10_state.md rule R23). -/
abbrev Phase.resting (p : Phase) : Prop :=
  p = .ready ∨ p = .openPort ∨ p = .addr ∨ p = .write ∨ p = .read

/-- The phases in which an operation can be held: at the port calls its rule lists (10_state.md rule R23). -/
def heldPhases (cfg : Config) (i : Instr) : List Phase :=
  match exchangeOf cfg i with
  | .none => if i = .init then [.openPort, .addr] else []
  | .command _ _ => [.write]
  | .query _ _ _ => [.write, .read]

/-- The sequencer: it rests, an operation is in progress exactly when it is not ready, that operation's operands meet
their preconditions, its guard passed, and it is held at one of its port calls (10_state.md rules R23 and R28,
43_lifecycle.md rule R120). -/
abbrev State.sequencerInv (s : State) : Prop :=
  s.ph.resting ∧ (s.ph = .ready ↔ s.cur = none) ∧
  (∀ i ∈ s.cur, i.wellFormed s.cfg = true ∧ guardCell i s.ls = .run ∧ s.ph ∈ heldPhases s.cfg i)

/-- An operation in progress that sends a frame has it in `TXB`, whole (42_executor.md rules R100 to R102). -/
abbrev State.heldFrameInv (s : State) : Prop :=
  ∀ i ∈ s.cur, ∀ bs ∈ frameFor s.cfg i, s.txb = bufferOf bs ∧ s.txlen = bs.length

/-- The states a run keeps to. -/
abbrev State.Inv (s : State) : Prop :=
  s.wordsInv ∧ s.buffersInv ∧ s.statusInv ∧ s.payloadInv ∧ s.sequencerInv ∧ s.heldFrameInv

end Sys2Proof.Machine
end

