-- ==== Sys2Proof/Certificates/Slice0/Obligations.lean ====
section
/-! DEFINITION. The statements about the model, for the provers. The names `s.opened i`, `s.framed op args`, `s.endedOk`
and the like are parts of an expected state, spelled out in Safety.lean. -/

open Sys2Proof Sys2Proof.Machine

/-! ### Checksum Engine -/

/-- 40_checksum.md rule R80 (result, flags, corner cases, worked example). The loop itself is the spec's normative
choice D30 of 92_eei_decisions.md. -/
def Obligations.GenerateChecksumLeavesItInCrc : Prop :=
  (∀ (b0 b1 : Byte) (s : State), s.ph = .ready →
    exec (.generateChecksum b0 b1) s =
      .next { s with crc := some (checksum b0 b1), ret := some (.byte (checksum b0 b1)), ph := .ready, cur := none }) ∧
  checksum 0x00 0x00 = 0x81 ∧ checksum 0xFF 0xFF = 0xAC ∧ checksum 0xFF 0x00 = 0x00 ∧ checksum 0x03 0x00 = 0xAC

/-- 40_checksum.md rule R81. -/
def Obligations.VerifyChecksumComparesWithGenerated : Prop :=
  (∀ (b0 b1 c : Byte) (s : State), s.ph = .ready →
    exec (.verifyChecksum b0 b1 c) s =
      .next { s with crc := some (checksum b0 b1), ret := some (.bit (decide (checksum b0 b1 = c))),
                     ph := .ready, cur := none }) ∧
  (∀ b0 b1 : Byte, ∃ c, ∀ d, (checksum b0 b1 = d ↔ d = c)) ∧
  (∀ b0 b1 c : Byte, crcByte (checksum b0 b1) c = 0x00 ↔ checksum b0 b1 = c) ∧
  checksum 0xBE 0xEF = 0x92

/-- One bit of the linear feedback shift register of 40_checksum.md rule R82. -/
def lfsrBit (c : Byte) (d : Bool) : Byte := if (c.getLsbD 7 ^^ d) then (c <<< 1) ^^^ 0x31 else c <<< 1

/-- The bits of a byte, bit 7 first (rule R82). -/
def bitsMsbFirst (b : Byte) : List Bool := [7, 6, 5, 4, 3, 2, 1, 0].map fun k => b.getLsbD k

/-- 40_checksum.md rule R82, an inference of the spec from rule R80: the bit-serial form, and its gate equations. -/
def Obligations.ChecksumEqualsBitSerialRegister : Prop :=
  (∀ b0 b1 : Byte, checksum b0 b1 = (bitsMsbFirst b0 ++ bitsMsbFirst b1).foldl lfsrBit 0xFF) ∧
  (∀ (c : Byte) (d : Bool),
    (lfsrBit c d).getLsbD 0 = (c.getLsbD 7 ^^ d) ∧ (lfsrBit c d).getLsbD 1 = c.getLsbD 0 ∧
    (lfsrBit c d).getLsbD 2 = c.getLsbD 1 ∧ (lfsrBit c d).getLsbD 3 = c.getLsbD 2 ∧
    (lfsrBit c d).getLsbD 4 = (c.getLsbD 3 ^^ (c.getLsbD 7 ^^ d)) ∧
    (lfsrBit c d).getLsbD 5 = (c.getLsbD 4 ^^ (c.getLsbD 7 ^^ d)) ∧
    (lfsrBit c d).getLsbD 6 = c.getLsbD 5 ∧ (lfsrBit c d).getLsbD 7 = c.getLsbD 6)

/-- The table `T` of 95_test_vectors.md section 2, rows `0x0_` to `0x7_`. -/
def crcTableLow : List Byte :=
  [0x00, 0x31, 0x62, 0x53, 0xC4, 0xF5, 0xA6, 0x97, 0xB9, 0x88, 0xDB, 0xEA, 0x7D, 0x4C, 0x1F, 0x2E] ++
  [0x43, 0x72, 0x21, 0x10, 0x87, 0xB6, 0xE5, 0xD4, 0xFA, 0xCB, 0x98, 0xA9, 0x3E, 0x0F, 0x5C, 0x6D] ++
  [0x86, 0xB7, 0xE4, 0xD5, 0x42, 0x73, 0x20, 0x11, 0x3F, 0x0E, 0x5D, 0x6C, 0xFB, 0xCA, 0x99, 0xA8] ++
  [0xC5, 0xF4, 0xA7, 0x96, 0x01, 0x30, 0x63, 0x52, 0x7C, 0x4D, 0x1E, 0x2F, 0xB8, 0x89, 0xDA, 0xEB] ++
  [0x3D, 0x0C, 0x5F, 0x6E, 0xF9, 0xC8, 0x9B, 0xAA, 0x84, 0xB5, 0xE6, 0xD7, 0x40, 0x71, 0x22, 0x13] ++
  [0x7E, 0x4F, 0x1C, 0x2D, 0xBA, 0x8B, 0xD8, 0xE9, 0xC7, 0xF6, 0xA5, 0x94, 0x03, 0x32, 0x61, 0x50] ++
  [0xBB, 0x8A, 0xD9, 0xE8, 0x7F, 0x4E, 0x1D, 0x2C, 0x02, 0x33, 0x60, 0x51, 0xC6, 0xF7, 0xA4, 0x95] ++
  [0xF8, 0xC9, 0x9A, 0xAB, 0x3C, 0x0D, 0x5E, 0x6F, 0x41, 0x70, 0x23, 0x12, 0x85, 0xB4, 0xE7, 0xD6]

/-- The table `T` of 95_test_vectors.md section 2, rows `0x8_` to `0xF_`. -/
def crcTableHigh : List Byte :=
  [0x7A, 0x4B, 0x18, 0x29, 0xBE, 0x8F, 0xDC, 0xED, 0xC3, 0xF2, 0xA1, 0x90, 0x07, 0x36, 0x65, 0x54] ++
  [0x39, 0x08, 0x5B, 0x6A, 0xFD, 0xCC, 0x9F, 0xAE, 0x80, 0xB1, 0xE2, 0xD3, 0x44, 0x75, 0x26, 0x17] ++
  [0xFC, 0xCD, 0x9E, 0xAF, 0x38, 0x09, 0x5A, 0x6B, 0x45, 0x74, 0x27, 0x16, 0x81, 0xB0, 0xE3, 0xD2] ++
  [0xBF, 0x8E, 0xDD, 0xEC, 0x7B, 0x4A, 0x19, 0x28, 0x06, 0x37, 0x64, 0x55, 0xC2, 0xF3, 0xA0, 0x91] ++
  [0x47, 0x76, 0x25, 0x14, 0x83, 0xB2, 0xE1, 0xD0, 0xFE, 0xCF, 0x9C, 0xAD, 0x3A, 0x0B, 0x58, 0x69] ++
  [0x04, 0x35, 0x66, 0x57, 0xC0, 0xF1, 0xA2, 0x93, 0xBD, 0x8C, 0xDF, 0xEE, 0x79, 0x48, 0x1B, 0x2A] ++
  [0xC1, 0xF0, 0xA3, 0x92, 0x05, 0x34, 0x67, 0x56, 0x78, 0x49, 0x1A, 0x2B, 0xBC, 0x8D, 0xDE, 0xEF] ++
  [0x82, 0xB3, 0xE0, 0xD1, 0x46, 0x77, 0x24, 0x15, 0x3B, 0x0A, 0x59, 0x68, 0xFF, 0xCE, 0x9D, 0xAC]

/-- Entry `x` of the table. -/
def crcTableAt (x : Byte) : Byte := (crcTableLow ++ crcTableHigh).getD x.toNat 0

/-- 40_checksum.md rule R83, an inference of the spec from rule R80: the table form. -/
def Obligations.ChecksumEqualsTableLookup : Prop :=
  ∀ b0 b1 : Byte, checksum b0 b1 = crcTableAt (crcTableAt (0xFF ^^^ b0) ^^^ b1)

/-- 40_checksum.md rule R85, an inference of the spec from rule R80: affine over GF(2). -/
def Obligations.ChecksumIsAffine : Prop :=
  (∀ x0 x1 y0 y1 : Byte,
    checksum (x0 ^^^ y0) (x1 ^^^ y1) = checksum x0 x1 ^^^ checksum y0 y1 ^^^ checksum 0x00 0x00) ∧
  checksum 0x00 0x00 = 0x81

/-- 40_checksum.md rule R84: a generated checksum verifies, and every error of one, two or three flipped bits anywhere
in a triplet is detected (the latter an inference of the spec from rule R80). -/
def Obligations.ChecksumDetectsUpToThreeFlippedBits : Prop :=
  (∀ b0 b1 : Byte, verify b0 b1 (checksum b0 b1) = true) ∧
  (∀ b0 b1 c e0 e1 e2 : Byte, verify b0 b1 c = true →
    1 ≤ bitCount e0 + bitCount e1 + bitCount e2 → bitCount e0 + bitCount e1 + bitCount e2 ≤ 3 →
    verify (b0 ^^^ e0) (b1 ^^^ e1) (c ^^^ e2) = false) ∧
  verify 0x12 0x34 0x37 = true ∧ verify 0x92 0x34 0x14 = true

/-- 40_checksum.md rule R80, corner cases (an inference of the spec): with one data byte fixed, every checksum value is
taken by exactly one value of the other, so each of the 256 values is taken by exactly 256 inputs. -/
def Obligations.EveryChecksumValueIsTakenOncePerByte : Prop :=
  (∀ b0 c : Byte, ∃ b1, ∀ x, (checksum b0 x = c ↔ x = b1)) ∧ (∀ b1 c : Byte, ∃ b0, ∀ x, (checksum x b1 = c ↔ x = b0))

/-! ### Words and bytes -/

/-- 30_encoding.md rule R62. -/
def Obligations.WordIsHighByteThenLowByte : Prop :=
  (∀ h l : Byte, (catBytes h l).toNat = h.toNat * 256 + l.toNat ∧ hiByte (catBytes h l) = h ∧
    loByte (catBytes h l) = l) ∧
  (∀ w : Word, (hiByte w).toNat = w.toNat / 256 ∧ (loByte w).toNat = w.toNat % 256 ∧
    catBytes (hiByte w) (loByte w) = w)

/-! ### Frame Codec -/

/-- 41_codec.md rule R90: encode lays out the frame byte by byte, answers its exact length, writes `TXB`, `TXLEN`, `IDX` and
`CRC`, leaves every other index of `TXB` without a value, and is refused above `MAXW`; with the rule's worked example. -/
def Obligations.EncodeLaysOutTheFrame : Prop :=
  (∀ (opcode : Word) (args : List Word) (s : State), s.ph = .ready → args.length ≤ s.cfg.maxW →
    ∃ t, exec (.encode opcode args) s = .next t ∧
      t = ((s.opened (.encode opcode args)).framed opcode args).returned (.length (2 + 3 * args.length)) ∧
      Memory.read t.txb 0 = some (hiByte opcode) ∧ Memory.read t.txb 1 = some (loByte opcode) ∧
      (∀ k w, args[k]? = some w →
        Memory.read t.txb (2 + 3 * k) = some (hiByte w) ∧ Memory.read t.txb (3 + 3 * k) = some (loByte w) ∧
        Memory.read t.txb (4 + 3 * k) = some (checksum (hiByte w) (loByte w))) ∧
      (∀ a, 2 + 3 * args.length ≤ a → Memory.read t.txb a = none) ∧
      (∀ a, Memory.read t.rxb a = Memory.read s.rxb a)) ∧
  (∀ (opcode : Word) (args : List Word) (s : State), s.ph = .ready → s.cfg.maxW < args.length →
    exec (.encode opcode args) s = .refused (.overCapacity args.length)) ∧
  frameOf 0x0010 [0x0300] = [0x00, 0x10, 0x03, 0x00, 0xAC]

/-- 20_memory.md rules R43 and R54, 41_codec.md rule R91: a violated precondition is refused (the spec's decisions D5 and
D17). -/
def Obligations.CodecRefusesViolatedPreconditions : Prop :=
  (∀ (opcode : Word) (words : List Word) (s : State), s.ph = .ready → s.cfg.maxW < words.length →
    exec (.writeCommandWithArgs opcode words) s = .refused (.overCapacity words.length)) ∧
  (∀ (n : Nat) (s : State), s.ph = .ready → s.cfg.maxW < n → exec (.decode n) s = .refused (.overCapacity n)) ∧
  (∀ (opcode : Word) (delay n : Nat) (s : State), s.ph = .ready → s.cfg.maxW < n →
    exec (.readDelayed opcode delay n) s = .refused (.overCapacity n) ∧
    exec (.readCommand opcode n) s = .refused (.overCapacity n)) ∧
  (∀ (n : Nat) (s : State), s.ph = .ready → n ≤ s.cfg.maxW → s.rxlen ≠ 3 * n →
    exec (.decode n) s = .refused (.responseLength s.rxlen n))

/-- 41_codec.md rule R91, success: every triplet intact, all words are committed. -/
def Obligations.DecodeCommitsAllWords : Prop :=
  ∀ (n : Nat) (bs : List Byte) (s : State), s.ph = .ready → n ≤ s.cfg.maxW → s.rxlen = 3 * n → bs.length = 3 * n →
    s.rxb = bufferOf bs → (∀ j < n, goodTriplet bs j) →
    exec (.decode n) s =
      .next (((s.opened (.decode n)).decoded ((List.range n).map fun j => (tripletAt bs j).word)).returned .ok)

/-- 41_codec.md rule R91, failure; 60_exceptions.md rules R152 and R156: the least failing index, and no word; and what
stands behind the failing triplet is not examined, whether it holds a value or not. -/
def Obligations.DecodeRaisesLeastFailingIndex : Prop :=
  (∀ (n k : Nat) (bs : List Byte) (s : State), s.ph = .ready → n ≤ s.cfg.maxW → s.rxlen = 3 * n → bs.length = 3 * n →
    s.rxb = bufferOf bs → leastBad bs n k →
    exec (.decode n) s =
      .next { (s.opened (.decode n)).endedChecksum k with
                idx := k, crc := some (checksum (tripletAt bs k).h (tripletAt bs k).l) }) ∧
  (∀ (n k : Nat) (h l c : Byte) (s : State), s.ph = .ready → n ≤ s.cfg.maxW → s.rxlen = 3 * n → k < n →
    (∀ j < k, holdsGood s.rxb j) → Memory.read s.rxb (3 * k) = some h → Memory.read s.rxb (3 * k + 1) = some l →
    Memory.read s.rxb (3 * k + 2) = some c → checksum h l ≠ c →
    exec (.decode n) s =
      .next { (s.opened (.decode n)).endedChecksum k with idx := k, crc := some (checksum h l) })

/-- 41_codec.md rule R93, as restated by 90_conflicts.md C4 (an inference of the spec from rules R90 and R91): what encode
puts behind the opcode, decode reads back. -/
def Obligations.DecodeReadsBackEncodedWords : Prop :=
  ∀ (opcode : Word) (args : List Word) (s : State), s.ph = .ready → args.length ≤ s.cfg.maxW →
    ∃ t, exec (.encode opcode args) s = .next t ∧
      ∀ (u : State) (bs : List Byte), u.ph = .ready → u.cfg = s.cfg → u.rxlen = 3 * args.length →
        u.rxb = bufferOf bs → bs.length = 3 * args.length →
        (∀ j < 3 * args.length, Memory.read t.txb (2 + j) = bs[j]?) →
        ∃ v, exec (.decode args.length) u = .next v ∧ v.w = args ∧ v.nw = args.length ∧ v.ret = some .ok ∧
          v.st = u.st

/-- 41_codec.md rule R94 (an inference of the spec from rule R91 and rule R84): an intact response with one to three bits
flipped inside triplet `j`, or with the checksum byte of triplet `j` wrong in any number of its bits, raises
`ChecksumError(j)` and returns no word. -/
def Obligations.DecodeReportsACorruptedTriplet : Prop :=
  ∀ (before after : List Word) (w : Word) (e0 e1 e2 : Byte) (s : State), s.ph = .ready →
    before.length + 1 + after.length ≤ s.cfg.maxW →
    s.rxlen = 3 * (before.length + 1 + after.length) →
    s.rxb = bufferOf (responseOf before ++
      [hiByte w ^^^ e0, loByte w ^^^ e1, checksum (hiByte w) (loByte w) ^^^ e2] ++ responseOf after) →
    (1 ≤ bitCount e0 + bitCount e1 + bitCount e2 ∧ bitCount e0 + bitCount e1 + bitCount e2 ≤ 3 ∨
      e0 = 0 ∧ e1 = 0 ∧ e2 ≠ 0) →
    ∃ t, exec (.decode (before.length + 1 + after.length)) s = .next t ∧
      t.st = .checksumError ∧ t.errIdx = some before.length ∧ t.nw = 0 ∧ (∀ i, t.readW i = none)

/-! ### Command Executor -/

/-- 42_executor.md rules R100 and R101: the frame is written once, exactly, and `Ok` is returned. -/
def Obligations.WriteCommandsSendTheirFrame : Prop :=
  (∀ (opcode : Word) (s : State) (b : List Byte) (rest : List (Option PortAnswer)), s.ph = .ready →
    s.script = some (.ok b) :: rest →
    exec (.writeCommand opcode) s =
      .next ((((s.opened (.writeCommand opcode)).framed opcode []).passed rest [wrote opcode []]).returned .ok)) ∧
  (∀ (opcode : Word) (words : List Word) (s : State) (b : List Byte) (rest : List (Option PortAnswer)),
    s.ph = .ready → words.length ≤ s.cfg.maxW → s.script = some (.ok b) :: rest →
    exec (.writeCommandWithArgs opcode words) s =
      .next ((((s.opened (.writeCommandWithArgs opcode words)).framed opcode words).passed rest
        [wrote opcode words]).returned .ok))

/-- 42_executor.md rules R102 and R103: write, the delay if any, read, decode. -/
def Obligations.ReadCommandsFetchTheirWords : Prop :=
  (∀ (opcode : Word) (delay : Nat) (ws : List Word) (s : State) (b : List Byte) (rest : List (Option PortAnswer)),
    s.ph = .ready → ws.length ≤ s.cfg.maxW → s.script = some (.ok b) :: some (.ok (responseOf ws)) :: rest →
    exec (.readDelayed opcode delay ws.length) s =
      .next (((((s.opened (.readDelayed opcode delay ws.length)).framed opcode []).received ws.length
        (responseOf ws)).decoded ws).passed rest (queried opcode delay ws.length (responseOf ws)) |>.returned .ok)) ∧
  (∀ (opcode : Word) (ws : List Word) (s : State) (b : List Byte) (rest : List (Option PortAnswer)),
    s.ph = .ready → ws.length ≤ s.cfg.maxW → s.script = some (.ok b) :: some (.ok (responseOf ws)) :: rest →
    exec (.readCommand opcode ws.length) s =
      .next (((((s.opened (.readCommand opcode ws.length)).framed opcode []).received ws.length
        (responseOf ws)).decoded ws).passed rest (queried opcode 0 ws.length (responseOf ws)) |>.returned .ok))

/-- An outcome with the name of the operation in progress put to one fixed value: what is left when two operations are
compared whose only difference is their name. -/
def withoutName (r : Result) : Result :=
  match r with
  | .next s => .next { s with cur := s.cur.map fun _ => .reset }
  | .fault f => .fault f
  | .refused e => .refused e

/-- 42_executor.md rule R103, with its worked example. -/
def Obligations.ReadCommandIsReadDelayedWithNoDelay : Prop :=
  (∀ (opcode : Word) (n : Nat) (s : State), s.ph = .ready →
    withoutName (exec (.readCommand opcode n) s) = withoutName (exec (.readDelayed opcode 0 n) s)) ∧
  (∀ (opcode : Word) (n : Nat) (s t : State) (us : Nat), exec (.readCommand opcode n) s = .next t →
    t.trace.count (.delay us) = s.trace.count (.delay us)) ∧
  (∀ (s : State) (b : List Byte) (rest : List (Option PortAnswer)), s.ph = .ready →
    s.script = some (.ok b) :: some (.ok [0x00, 0x09, 0x09, 0x3A, 0x80, 0xA7]) :: rest →
    ∃ t, exec (.readCommand 0x8004 2) s = .next t ∧ t.w = [0x0009, 0x3A80] ∧ t.nw = 2)

/-- 60_exceptions.md rules R151 and R156, 42_executor.md rule R105: a failed write ends the operation at once. That the
bus frames are among these operations is the model's reading (log 11). -/
def Obligations.FailedWriteEndsTheOperation : Prop :=
  ∀ (i : Instr) (s : State) (e : IoError) (rest : List (Option PortAnswer)), s.ph = .ready →
    i.wellFormed s.cfg = true → guardCell i s.ls = .run → s.script = some (.ioError e) :: rest →
    (∀ opcode args, exchangeOf s.cfg i = .command opcode args →
      exec i s = .next ((((s.opened i).framed opcode args).passed rest
        [.call (.write (frameOf opcode args)) (.ioError e)]).endedTransport e)) ∧
    (∀ opcode delay n, exchangeOf s.cfg i = .query opcode delay n →
      exec i s = .next ((((s.opened i).framed opcode []).passed rest
        [.call (.write (frameOf opcode [])) (.ioError e)]).endedTransport e))

/-- 60_exceptions.md rules R151 and R156, 42_executor.md rules R102 and R105, 20_memory.md rule R50: a failed read ends
the operation; nothing is decoded, and `RXB` and the words hold no value. That `RXLEN` is 0 then is the model's choice
(log 13), that the bus frames are among these operations its reading (log 11). -/
def Obligations.FailedReadEndsTheOperation : Prop :=
  ∀ (i : Instr) (s : State) (b : List Byte) (e : IoError) (rest : List (Option PortAnswer)) (opcode : Word)
    (delay n : Nat), s.ph = .ready → i.wellFormed s.cfg = true → guardCell i s.ls = .run →
    exchangeOf s.cfg i = .query opcode delay n → s.script = some (.ok b) :: some (.ioError e) :: rest →
    exec i s = .next (({ (s.opened i).framed opcode [] with rxb := [], rxlen := 0, nw := 0, w := [] } : State).passed rest
      (wrote opcode [] :: (waited delay ++ [.call (.read (3 * n)) (.ioError e)])) |>.endedTransport e)

/-- 60_exceptions.md rules R152 and R156, 42_executor.md rule R102: a response whose least failing triplet is `k` ends the
operation with `ChecksumError(k)`; no words and no payload. That the bus frames are among these operations is the model's
reading (log 11). -/
def Obligations.CorruptedResponseEndsTheOperation : Prop :=
  ∀ (i : Instr) (s : State) (b bs : List Byte) (rest : List (Option PortAnswer)) (opcode : Word) (delay n k : Nat),
    s.ph = .ready → i.wellFormed s.cfg = true → guardCell i s.ls = .run →
    exchangeOf s.cfg i = .query opcode delay n → bs.length = 3 * n → leastBad bs n k →
    s.script = some (.ok b) :: some (.ok bs) :: rest →
    exec i s = .next { ((((s.opened i).framed opcode []).received n bs).passed rest
      (queried opcode delay n bs)).endedChecksum k with
        idx := k, crc := some (checksum (tripletAt bs k).h (tripletAt bs k).l) }

/-- 20_memory.md rule R50 with 92_eei_decisions.md D36, log 5: a read that did not transfer exactly the count asked for is
a `TransportError`; the value of its `IoError` is free. That the bus frames are among these operations is the model's
reading (log 11). -/
def Obligations.WrongLengthReadIsTransportError : Prop :=
  ∀ (i : Instr) (s : State) (b bs : List Byte) (rest : List (Option PortAnswer)) (opcode : Word) (delay n : Nat),
    s.ph = .ready → i.wellFormed s.cfg = true → guardCell i s.ls = .run →
    exchangeOf s.cfg i = .query opcode delay n → bs.length ≠ 3 * n →
    s.script = some (.ok b) :: some (.ok bs) :: rest →
    ∃ t, exec i s = .next t ∧ t.st = .transportError ∧ t.ioErr = some (Config.transferError (3 * n) bs) ∧
      t.ph = .ready ∧ t.nw = 0 ∧ t.ls = s.ls

/-- The outcome with the lifecycle state put to `l`. -/
def withLs (l : Lifecycle) (r : Result) : Result :=
  match r with
  | .next s => .next { s with ls := l }
  | .fault f => .fault f
  | .refused e => .refused e

/-- 42_executor.md rule R104: the executor surfaces the port's error unchanged, reports a decode failure as
`ChecksumError`, ends `Ok` otherwise, never raises `StateError` and does not read `LS`. It speaks of the executor
operations and of the bus frames, which are executor transactions by the model's reading (log 11). -/
def Obligations.ExecutorMapsStatusesAndIgnoresLifecycle : Prop :=
  ∀ (i : Instr), i.isHostOp = false → exchangeOf Config.suggested i ≠ .none →
    (∀ (s : State) (l : Lifecycle), exec i { s with ls := l } = withLs l (exec i s)) ∧
    (∀ (s t : State), exec i s = .next t → t.ls = s.ls ∧
      (t.ph = .ready →
        (t.ret = some .ok ∧ t.st = s.st ∧ t.errIdx = s.errIdx ∧ t.ioErr = s.ioErr ∧
          ∃ es, t.trace = s.trace ++ es ∧ (∀ c e, PortEvent.call c (.ioError e) ∉ es) ∧
            ∀ n bs k, PortEvent.call (.read (3 * n)) (.ok bs) ∈ es → ¬ leastBad bs n k) ∨
        (∃ es c e, t.trace = s.trace ++ es ++ [.call c (.ioError e)] ∧
          (∀ c' e', PortEvent.call c' (.ioError e') ∉ es) ∧ t.st = .transportError ∧ t.ioErr = some e) ∨
        (∃ es n bs k, t.trace = s.trace ++ es ++ [.call (.read (3 * n)) (.ok bs)] ∧
          (∀ c e, PortEvent.call c (.ioError e) ∉ es) ∧ leastBad bs n k ∧ t.st = .checksumError ∧
          t.errIdx = some k)))

/-! ### Sensor Lifecycle -/

/-- 43_lifecycle.md rule R121: open, then set the address; the first failure ends init and `LS` stays. The order of the
two calls is the spec's decision D19. -/
def Obligations.InitOpensAndAddressesThePort : Prop :=
  ∀ (s : State) (rest : List (Option PortAnswer)), s.ph = .ready → s.ls = .uninitialized →
    (∀ b1 b2, s.script = some (.ok b1) :: some (.ok b2) :: rest →
      exec .init s = .next { ((s.opened .init).passed rest
        [.call (.openPath s.cfg.busPath) (.ok []), .call (.setAddress s.cfg.busAddr) (.ok [])]).endedOk with
          ls := .idle }) ∧
    (∀ e, s.script = some (.ioError e) :: rest →
      exec .init s = .next (((s.opened .init).passed rest
        [.call (.openPath s.cfg.busPath) (.ioError e)]).endedTransport e)) ∧
    (∀ b1 e, s.script = some (.ok b1) :: some (.ioError e) :: rest →
      exec .init s = .next (((s.opened .init).passed rest
        [.call (.openPath s.cfg.busPath) (.ok []), .call (.setAddress s.cfg.busAddr) (.ioError e)]).endedTransport e))

/-- 43_lifecycle.md rule R122: reset writes its frame in every lifecycle state and leaves `LS`. -/
def Obligations.ResetSendsItsCommandInEveryState : Prop :=
  ∀ (s : State) (b : List Byte) (rest : List (Option PortAnswer)), s.ph = .ready → s.script = some (.ok b) :: rest →
    exec .reset s = .next ((((s.opened .reset).framed s.cfg.opcReset []).passed rest [wrote s.cfg.opcReset []]).endedOk)

/-- 43_lifecycle.md rules R125 and R126: start and stop send their command and move `LS`; repeated they succeed and send
nothing (that the repeated one sends nothing is the spec's decision D14). -/
def Obligations.StartAndStopMoveTheLifecycle : Prop :=
  (∀ (s : State) (b : List Byte) (rest : List (Option PortAnswer)), s.ph = .ready → s.ls = .idle →
    s.script = some (.ok b) :: rest →
    exec .start s = .next { ((((s.opened .start).framed s.cfg.opcStart [s.cfg.startArg]).passed rest
      [wrote s.cfg.opcStart [s.cfg.startArg]]).endedOk) with ls := .measuring }) ∧
  (∀ s : State, s.ph = .ready → s.ls = .measuring → exec .start s = .next (s.opened .start).endedOk) ∧
  (∀ (s : State) (b : List Byte) (rest : List (Option PortAnswer)), s.ph = .ready → s.ls = .measuring →
    s.script = some (.ok b) :: rest →
    exec .stop s = .next { ((((s.opened .stop).framed s.cfg.opcStop []).passed rest
      [wrote s.cfg.opcStop []]).endedOk) with ls := .idle }) ∧
  (∀ s : State, s.ph = .ready → s.ls = .idle → exec .stop s = .next (s.opened .stop).endedOk)

/-- 43_lifecycle.md rules R123 and R124, 30_encoding.md rule R65: the string is the bytes before the least index that
holds `0x00`, or all 32. That 16 words are read and an unterminated string is `Ok` are the spec's decisions D9, D10. -/
def Obligations.IdentityQueriesReturnTheirString : Prop :=
  ∀ (i : Instr) (s : State) (ws : List Word) (b : List Byte) (rest : List (Option PortAnswer)) (opcode : Word)
    (delay : Nat), s.ph = .ready → s.ls ≠ .uninitialized → ws.length = 16 →
    (i = .getSerialNumber ∧ opcode = s.cfg.opcSerial ∧ delay = s.cfg.dlySerial ∨
      i = .getProductNumber ∧ opcode = s.cfg.opcProduct ∧ delay = s.cfg.dlyProduct) →
    s.script = some (.ok b) :: some (.ok (responseOf ws)) :: rest →
    ∃ L, L ≤ 32 ∧ (∀ k < L, byteAt (ws.flatMap fun w => [hiByte w, loByte w]) k ≠ 0x00) ∧
      (L < 32 → byteAt (ws.flatMap fun w => [hiByte w, loByte w]) L = 0x00) ∧
      exec i s = .next { (((((s.opened i).framed opcode []).received 16 (responseOf ws)).decoded ws).passed rest
        (queried opcode delay 16 (responseOf ws))).endedOk with
          rstr := (ws.flatMap fun w => [hiByte w, loByte w]).take L, rstrlen := some L }

/-- 43_lifecycle.md rule R127: one word, read from the sensor at every call and decoded by the configured function,
whatever function that is; the errors the rule lists; `LS` never changes; the default function and the rule's worked
examples. -/
def Obligations.DataReadyPollReturnsItsBoolean : Prop :=
  (∀ (s : State) (w : Word) (b : List Byte) (rest : List (Option PortAnswer)), s.ph = .ready → s.ls = .measuring →
    s.script = some (.ok b) :: some (.ok (responseOf [w])) :: rest →
    exec .isNewDataAvailable s =
      .next { (((((s.opened .isNewDataAvailable).framed s.cfg.opcDataReady []).received 1 (responseOf [w])).decoded
        [w]).passed rest (queried s.cfg.opcDataReady s.cfg.dlyDataReady 1 (responseOf [w]))).endedOk with
          rbool := some (boolOfWord s.cfg w) }) ∧
  (∀ s : State, s.ph = .ready → s.ls ≠ .measuring →
    exec .isNewDataAvailable s = .next (s.opened .isNewDataAvailable).endedState) ∧
  (∀ (s : State) (e : IoError) (rest : List (Option PortAnswer)), s.ph = .ready → s.ls = .measuring →
    (s.script = some (.ioError e) :: rest ∨ ∃ b, s.script = some (.ok b) :: some (.ioError e) :: rest) →
    ∃ t, exec .isNewDataAvailable s = .next t ∧ t.st = .transportError ∧ t.ioErr = some e ∧ t.rbool = none) ∧
  (∀ (s : State) (h l c : Byte) (b : List Byte) (rest : List (Option PortAnswer)), s.ph = .ready →
    s.ls = .measuring → checksum h l ≠ c → s.script = some (.ok b) :: some (.ok [h, l, c]) :: rest →
    ∃ t, exec .isNewDataAvailable s = .next t ∧ t.st = .checksumError ∧ t.errIdx = some 0 ∧ t.rbool = none) ∧
  (∀ s t : State, exec .isNewDataAvailable s = .next t → t.ls = s.ls) ∧
  (∀ w : Word, boolOfWord Config.suggested w = true ↔ w ≠ 0x0000) ∧
  responseOf [0x0001] = [0x00, 0x01, 0xB0] ∧ responseOf [0x0000] = [0x00, 0x00, 0x81]

/-- 43_lifecycle.md rule R128, 30_encoding.md rule R64: field `k` is `W[2k] ++ W[2k+1]`, the 32 bits unchanged. -/
def Obligations.MeasurementRecordIsPairsOfWords : Prop :=
  ∀ (s : State) (ws : List Word) (b : List Byte) (rest : List (Option PortAnswer)), s.ph = .ready →
    s.ls = .measuring → ws.length = 20 → s.script = some (.ok b) :: some (.ok (responseOf ws)) :: rest →
    ∃ r : MeasurementRecord,
      (∀ k < 10, ∃ hi lo, ws[2 * k]? = some hi ∧ ws[2 * k + 1]? = some lo ∧ r.fields[k]? = some (catWords hi lo)) ∧
      exec .getMeasurement s =
        .next { (((((s.opened .getMeasurement).framed s.cfg.opcReadMeas []).received 20 (responseOf ws)).decoded
          ws).passed rest (queried s.cfg.opcReadMeas s.cfg.dlyMeas 20 (responseOf ws))).endedOk with
            rrec := some r }

/-- 43_lifecycle.md rules R129 and R130, 30_encoding.md rule R63: the interval goes out and comes in as two words, most
significant first, every value as given. -/
def Obligations.AutoCleanIntervalIsTwoWords : Prop :=
  (∀ (s : State) (u : DWord) (b : List Byte) (rest : List (Option PortAnswer)), s.ph = .ready →
    s.ls ≠ .uninitialized → s.script = some (.ok b) :: rest →
    ∃ a0 a1 : Word, a0.toNat = u.toNat / 65536 ∧ a1.toNat = u.toNat % 65536 ∧
      exec (.setAutoCleanInterval u) s =
        .next ((((s.opened (.setAutoCleanInterval u)).framed s.cfg.opcAutoclean [a0, a1]).passed rest
          [wrote s.cfg.opcAutoclean [a0, a1]]).endedOk)) ∧
  (∀ (s : State) (w0 w1 : Word) (b : List Byte) (rest : List (Option PortAnswer)), s.ph = .ready →
    s.ls ≠ .uninitialized → s.script = some (.ok b) :: some (.ok (responseOf [w0, w1])) :: rest →
    ∃ u : DWord, u.toNat = w0.toNat * 65536 + w1.toNat ∧
      exec .getAutoCleanInterval s =
        .next { (((((s.opened .getAutoCleanInterval).framed s.cfg.opcAutoclean []).received 2
          (responseOf [w0, w1])).decoded [w0, w1]).passed rest
            (queried s.cfg.opcAutoclean s.cfg.dlyAutoclean 2 (responseOf [w0, w1]))).endedOk with ru32 := some u })

/-- 43_lifecycle.md rule R120, 60_exceptions.md rules R153 and R155: in a `StateError` cell the operation ends at once,
with no port call; and a host operation ends with `StateError` in no other cell. The cells the source does not settle
are the spec's decisions D19 and D38. -/
def Obligations.StateErrorExactlyInItsCells : Prop :=
  (∀ (i : Instr) (s : State), s.ph = .ready → guardCell i s.ls = .stateError →
    exec i s = .next (s.opened i).endedState) ∧
  (∀ (i : Instr) (s t : State), s.ph = .ready → i.isHostOp = true → exec i s = .next t → t.ph = .ready →
    (t.st = .stateError ↔ guardCell i s.ls = .stateError))

/-- 43_lifecycle.md rule R131 (that a failed start or stop leaves `LS` is the spec's decision D13): the complete list of
`LS` writes, each at an `Ok` ending. -/
def Obligations.LifecycleChangesOnlyAtOkEndings : Prop :=
  ∀ s t : State, step s = .next t → t.ls ≠ s.ls →
    t.ph = .ready ∧ t.st = .ok ∧
    ∃ i, (s.cur = some i ∨ s.cur = none ∧ ∃ r rest, s.requests = r :: rest ∧ decode s.cfg r = .ok i) ∧
      (i = .init ∧ s.ls = .uninitialized ∧ t.ls = .idle ∨ i = .start ∧ s.ls = .idle ∧ t.ls = .measuring ∨
        i = .stop ∧ s.ls = .measuring ∧ t.ls = .idle)

/-- The two states differ only in words, scratch, buffers, results of earlier operations and the model's own record of
what was returned. -/
def sameBeforeAHostOperation (s t : State) : Prop :=
  s.ls = t.ls ∧ s.ph = t.ph ∧ s.cfg = t.cfg ∧ s.requests = t.requests ∧ s.script = t.script ∧ s.polls = t.polls ∧
    s.trace = t.trace

/-- The two states agree on everything the host can see, now or in a later host operation. -/
def sameAfterAHostOperation (s t : State) : Prop :=
  s.ls = t.ls ∧ s.ph = t.ph ∧ s.cur = t.cur ∧ s.cfg = t.cfg ∧ s.requests = t.requests ∧ s.script = t.script ∧
    s.polls = t.polls ∧ s.trace = t.trace ∧ s.rbool = t.rbool ∧ s.ru32 = t.ru32 ∧ s.rstr = t.rstr ∧
    s.rstrlen = t.rstrlen ∧ s.rrec = t.rrec ∧ s.errIdx = t.errIdx ∧ s.ioErr = t.ioErr ∧
    (s.ph = .ready → s.st = t.st)

/-- 10_state.md rules R22, R27 and R29, 92_eei_decisions.md D20: nothing an earlier operation left in the words, the
buffers or the result registers reaches a later host operation's result; no interval is cached. -/
def Obligations.HostOperationsIgnoreStaleRegisters : Prop :=
  ∀ (i : Instr) (s t s' : State), i.isHostOp = true → s.ph = .ready → sameBeforeAHostOperation s t →
    exec i s = .next s' → ∃ t', exec i t = .next t' ∧ sameAfterAHostOperation s' t'

/-! ### Bus frames and reserved requests -/

/-- 30_encoding.md rules R60 and R67, as read by log 11: a bus frame without a response is the executor's transfer of
exactly that frame. -/
def Obligations.BusCommandsAreTransferred : Prop :=
  ∀ (s : State) (b : List Byte) (rest : List (Option PortAnswer)), s.ph = .ready → s.script = some (.ok b) :: rest →
    exec .busReset s = .next ((((s.opened .busReset).framed s.cfg.opcReset []).passed rest
      [wrote s.cfg.opcReset []]).returned .ok) ∧
    exec .busStop s = .next ((((s.opened .busStop).framed s.cfg.opcStop []).passed rest
      [wrote s.cfg.opcStop []]).returned .ok) ∧
    (∀ a c, c = checksum (hiByte a) (loByte a) →
      exec (.busStart a c) s = .next ((((s.opened (.busStart a c)).framed s.cfg.opcStart [a]).passed rest
        [.call (.write [hiByte s.cfg.opcStart, loByte s.cfg.opcStart, hiByte a, loByte a, c]) (.ok [])]).returned .ok)) ∧
    (∀ a c d e, c = checksum (hiByte a) (loByte a) → e = checksum (hiByte d) (loByte d) →
      exec (.busSetAutoCleanInterval a c d e) s =
        .next ((((s.opened (.busSetAutoCleanInterval a c d e)).framed s.cfg.opcAutoclean [a, d]).passed rest
          [.call (.write [hiByte s.cfg.opcAutoclean, loByte s.cfg.opcAutoclean, hiByte a, loByte a, c, hiByte d,
            loByte d, e]) (.ok [])]).returned .ok))

/-- 30_encoding.md rules R61 and R67, as read by log 11: a bus frame with a response is the executor's query. -/
def Obligations.BusQueriesFetchTheirResponse : Prop :=
  ∀ (i : Instr) (s : State) (ws : List Word) (b : List Byte) (rest : List (Option PortAnswer)) (opcode : Word)
    (delay : Nat), s.ph = .ready →
    (i = .busGetSerialNumber ∧ opcode = s.cfg.opcSerial ∧ delay = s.cfg.dlySerial ∧ ws.length = 16 ∨
      i = .busGetProductNumber ∧ opcode = s.cfg.opcProduct ∧ delay = s.cfg.dlyProduct ∧ ws.length = 16 ∨
      i = .busIsNewDataAvailable ∧ opcode = s.cfg.opcDataReady ∧ delay = s.cfg.dlyDataReady ∧ ws.length = 1 ∨
      i = .busGetMeasurement ∧ opcode = s.cfg.opcReadMeas ∧ delay = s.cfg.dlyMeas ∧ ws.length = 20 ∨
      i = .busGetAutoCleanInterval ∧ opcode = s.cfg.opcAutoclean ∧ delay = s.cfg.dlyAutoclean ∧ ws.length = 2) →
    s.script = some (.ok b) :: some (.ok (responseOf ws)) :: rest →
    exec i s = .next ((((((s.opened i).framed opcode []).received ws.length (responseOf ws)).decoded ws).passed rest
      (queried opcode delay ws.length (responseOf ws))).returned .ok)

/-- 30_encoding.md rule R60: bytes whose checksum byte is not their word's are no command frame, and are refused. -/
def Obligations.MalformedBusFramesAreRefused : Prop :=
  (∀ (a : Word) (c : Byte) (s : State), s.ph = .ready → c ≠ checksum (hiByte a) (loByte a) →
    exec (.busStart a c) s = .refused .badFrame) ∧
  (∀ (a : Word) (c : Byte) (b : Word) (d : Byte) (s : State), s.ph = .ready →
    c ≠ checksum (hiByte a) (loByte a) ∨ d ≠ checksum (hiByte b) (loByte b) →
    exec (.busSetAutoCleanInterval a c b d) s = .refused .badFrame)

/-- 30_encoding.md rules R68 and R69 (a) (the refusal is the spec's decision D28): a host request with an OPID from 0x0A
on is refused, and nothing happens. -/
def Obligations.ReservedHostRequestsAreRefused : Prop :=
  (∀ (opid : BitVec 5) (arg : DWord) (rest : List Request) (s : State), s.cur = none →
    s.requests = .host opid arg :: rest → 0x0A ≤ opid.toNat → ∃ r, step s = .refused r) ∧
  (∀ (k : BitVec 1) (s : State), exec (.reserved0A0B k) s = .refused (.reservedOpid (5#4 ++ k))) ∧
  (∀ (k : BitVec 2) (s : State), exec (.reserved0C0F k) s = .refused (.reservedOpid (3#3 ++ k))) ∧
  (∀ (k : BitVec 3) (s : State), exec (.reserved181F k) s = .refused (.reservedOpid (3#2 ++ k)))

/-! ### Encoding -/

/-- 30_encoding.md rules R60, R67, R68 and R72: decoding an encoded operation gives it back, every operand at every
value. Bus frames are told apart by their opcodes, so the opcodes of one shape must differ. The numbers of the OPIDs are
the spec's decision D3, the form of unit operands the model's (log 2). -/
def Obligations.DecodeOfEncodeIsTheInstruction : Prop :=
  ∀ (cfg : Config) (i : Instr), cfg.cmd0Opcodes.Nodup → decode cfg (encode cfg i) = .ok i

/-- 30_encoding.md rules R60, R67 and R68: the decoder drops no bit of a frame or of a unit operation's operands, and of
a host request only an `ARG32` the operation ignores. The form of a unit operation's operands is the model's choice
(log 2), so that clause is about the model's own form. -/
def Obligations.EncodeOfDecodeIsTheRequest : Prop :=
  (∀ (cfg : Config) (bs : List Byte) (i : Instr), decode cfg (.frame bs) = .ok i → encode cfg i = .frame bs) ∧
  (∀ (cfg : Config) (o : BitVec 5) (ops : List Nat) (i : Instr), decode cfg (.unitOp o ops) = .ok i →
    encode cfg i = .unitOp o ops) ∧
  (∀ (cfg : Config) (o : BitVec 5) (a : DWord) (i : Instr), decode cfg (.host o a) = .ok i →
    encode cfg i = .host o (if o = 0x09 then a else 0))

/-- Words written out from 30_encoding.md, one for each family: the host requests from rule R68 (OPID numbers: the spec's
decision D3), the bus frames from rules R60 and R67 with the suggested opcodes (log 4). Of the unit operations rule R68
gives the identifier and the order of the operands; their form as a list of numbers is the model's choice (log 2). -/
def Obligations.WrittenOutWordsDecode : Prop :=
  decode Config.suggested (.host 0b00000 0) = .ok .init ∧
  decode Config.suggested (.host 0b01001 604800) = .ok (.setAutoCleanInterval 604800) ∧
  decode Config.suggested (.host 0b01011 0) = .ok (.reserved0A0B 1) ∧
  decode Config.suggested (.unitOp 0b10001 [0xBE, 0xEF, 0x92]) = .ok (.verifyChecksum 0xBE 0xEF 0x92) ∧
  decode Config.suggested (.unitOp 0b10010 [0xABCD, 0xBEEF, 0, 0xFFFF]) = .ok (.encode 0xABCD [0xBEEF, 0, 0xFFFF]) ∧
  decode Config.suggested (.unitOp 0b10110 [0x0202, 500, 1]) = .ok (.readDelayed 0x0202 500 1) ∧
  decode Config.suggested (.frame [0xD3, 0x04]) = .ok .busReset ∧
  decode Config.suggested (.frame [0x00, 0x10, 0x03, 0x00, 0xAC]) = .ok (.busStart 0x0300 0xAC) ∧
  decode Config.suggested (.frame [0x80, 0x04, 0x00, 0x09, 0x09, 0x3A, 0x80, 0xA7]) =
    .ok (.busSetAutoCleanInterval 0x0009 0x09 0x3A80 0xA7)

/-! ### The machine -/

/-- 20_memory.md rule R48 (a), 10_state.md rule R23, 70_reset_and_hazards.md rule R170: one step runs the operation that
the host's next request decodes to, goes on with the operation in progress, or waits. The request list and the step are
the model's (log 1). -/
def Obligations.StepRunsTheDecodedRequest : Prop :=
  (∀ (s : State) (r : Request) (rest : List Request) (i : Instr), s.cur = none → s.requests = r :: rest →
    decode s.cfg r = .ok i → step s = exec i { s with requests := rest }) ∧
  (∀ (s : State) (r : Request) (rest : List Request) (e : DecodeError), s.cur = none → s.requests = r :: rest →
    decode s.cfg r = .error e → step s = .refused (.undecoded e)) ∧
  (∀ (s : State) (i : Instr), s.cur = some i → step s = exec i s) ∧
  (∀ s : State, s.cur = none → s.requests = [] → step s = .next s)

/-- 20_memory.md rule R48 (e), 70_reset_and_hazards.md rule R173, 92_eei_decisions.md D31: a request while another
operation is in progress is refused. -/
def Obligations.OverlappingRequestIsRefused : Prop :=
  ∀ (i : Instr) (s : State), isReserved i = false → s.ph ≠ .ready → s.cur ≠ some i → exec i s = .refused .overlap

/-- 10_state.md rule R23, 42_executor.md rule R106, 20_memory.md rule R53: while the port does not answer, the core is held
in the phase of the call: in `Write` with its frame in `TXB`, in `Read` with the write and the delay in the trace, init in
`Open` and in `Addr`; and a further poll without an answer changes nothing at all. How a hold is seen is the model's
(log 6); that the bus frames are among these operations is its reading (log 11). -/
def Obligations.UnansweredCallHoldsTheCore : Prop :=
  (∀ (i : Instr) (s : State) (rest : List (Option PortAnswer)) (opcode : Word) (args : List Word), s.ph = .ready →
    i.wellFormed s.cfg = true → guardCell i s.ls = .run → s.script = none :: rest →
    (exchangeOf s.cfg i = .command opcode args ∨ args = [] ∧ ∃ delay n, exchangeOf s.cfg i = .query opcode delay n) →
    exec i s = .next { ((s.opened i).framed opcode args).passed rest [] with ph := .write, cur := some i }) ∧
  (∀ (i : Instr) (s : State) (b : List Byte) (rest : List (Option PortAnswer)) (opcode : Word) (delay n : Nat),
    s.ph = .ready → i.wellFormed s.cfg = true → guardCell i s.ls = .run →
    exchangeOf s.cfg i = .query opcode delay n → s.script = some (.ok b) :: none :: rest →
    exec i s = .next { ((s.opened i).framed opcode []).passed rest (wrote opcode [] :: waited delay) with
      ph := .read, cur := some i }) ∧
  (∀ (s : State) (rest : List (Option PortAnswer)), s.ph = .ready → s.ls = .uninitialized →
    s.script = none :: rest →
    exec .init s = .next { (s.opened .init).passed rest [] with ph := .openPort, cur := some .init }) ∧
  (∀ (s : State) (b : List Byte) (rest : List (Option PortAnswer)), s.ph = .ready → s.ls = .uninitialized →
    s.script = some (.ok b) :: none :: rest →
    exec .init s = .next { (s.opened .init).passed rest [.call (.openPath s.cfg.busPath) (.ok [])] with
      ph := .addr, cur := some .init }) ∧
  (∀ (i : Instr) (s : State) (rest : List (Option PortAnswer)), s.Inv → s.cur = some i → s.script = none :: rest →
    exec i s = .next { s with script := rest })

/-- 10_state.md rule R23, 42_executor.md rule R106, 20_memory.md rules R45 and R48: a hold changes nothing. An operation
that was held at its first port call, or at its second (init in `Addr`, a query in `Read`), or held once more wherever it
was held, and then goes on, ends exactly as if the answer had come at once; so no call is made twice. That the bus frames
are among these operations is the model's reading (log 11). -/
def Obligations.HeldOperationEndsAsIfAnsweredAtOnce : Prop :=
  (∀ (i : Instr) (s : State) (rest : List (Option PortAnswer)), s.ph = .ready → s.script = none :: rest →
    i.wellFormed s.cfg = true → guardCell i s.ls = .run → (i = .init ∨ exchangeOf s.cfg i ≠ .none) →
    ∃ t, exec i s = .next t ∧ t.ph ≠ .ready ∧ t.cur = some i ∧ exec i t = exec i { s with script := rest }) ∧
  (∀ (i : Instr) (s : State) (b : List Byte) (rest : List (Option PortAnswer)), s.ph = .ready →
    s.script = some (.ok b) :: none :: rest → i.wellFormed s.cfg = true → guardCell i s.ls = .run →
    (i = .init ∨ ∃ opcode delay n, exchangeOf s.cfg i = .query opcode delay n) →
    ∃ t, exec i s = .next t ∧ (t.ph = .addr ∨ t.ph = .read) ∧ t.cur = some i ∧
      exec i t = exec i { s with script := some (.ok b) :: rest }) ∧
  (∀ (i : Instr) (s : State) (rest : List (Option PortAnswer)), s.Inv → s.cur = some i → s.script = none :: rest →
    ∃ t, exec i s = .next t ∧ t.ph = s.ph ∧ t.cur = some i ∧ exec i t = exec i { s with script := rest })

/-- The calls of a write of this frame: none yet, or one (42_executor.md rules R100 and R101). -/
def writeCalls (opcode : Word) (args : List Word) (es : List PortEvent) : Prop :=
  es = [] ∨ ∃ a, es = [.call (.write (frameOf opcode args)) a]

/-- The calls of a read of `n` words: none yet, or one (42_executor.md rule R102). -/
def readCalls (n : Nat) (es : List PortEvent) : Prop := es = [] ∨ ∃ a, es = [.call (.read (3 * n)) a]

/-- The calls of a query: the write of its opcode, and only after its `Ok` the delay and then the read (42_executor.md
rule R102). -/
def queryCalls (opcode : Word) (delay n : Nat) (es : List PortEvent) : Prop :=
  es = [] ∨ (∃ e, es = [.call (.write (frameOf opcode [])) (.ioError e)]) ∨
    ∃ fs, readCalls n fs ∧ es = wrote opcode [] :: (waited delay ++ fs)

/-- The calls of init's second half (43_lifecycle.md rule R121). -/
def addressCalls (cfg : Config) (es : List PortEvent) : Prop := es = [] ∨ ∃ a, es = [.call (.setAddress cfg.busAddr) a]

/-- The calls of init: `open`, and only after its `Ok` `set_address` (43_lifecycle.md rule R121). -/
def initCalls (cfg : Config) (es : List PortEvent) : Prop :=
  es = [] ∨ (∃ e, es = [.call (.openPath cfg.busPath) (.ioError e)]) ∨
    ∃ fs, addressCalls cfg fs ∧ es = .call (.openPath cfg.busPath) (.ok []) :: fs

/-- 20_memory.md rules R45 and R53, 43_lifecycle.md rule R120: an operation makes the calls its rule lists, in that order,
each at most once, and no other: from ready, and when it goes on after a hold, from the call at which it was held. That the
bus frames are among these operations is the model's reading (log 11). -/
def Obligations.OperationsMakeOnlyTheirPortCalls : Prop :=
  (∀ (i : Instr) (s t : State), s.ph = .ready → exec i s = .next t →
    ∃ es, t.trace = s.trace ++ es ∧
      (guardCell i s.ls ≠ .run → es = []) ∧
      (i ≠ .init → exchangeOf s.cfg i = .none → es = []) ∧
      (∀ opcode args, exchangeOf s.cfg i = .command opcode args → writeCalls opcode args es) ∧
      (∀ opcode delay n, exchangeOf s.cfg i = .query opcode delay n → queryCalls opcode delay n es) ∧
      (i = .init → initCalls s.cfg es)) ∧
  (∀ (i : Instr) (s t : State), s.Inv → s.cur = some i → exec i s = .next t →
    ∃ es, t.trace = s.trace ++ es ∧
      (∀ opcode args, exchangeOf s.cfg i = .command opcode args → writeCalls opcode args es) ∧
      (∀ opcode delay n, exchangeOf s.cfg i = .query opcode delay n →
        (s.ph = .write → queryCalls opcode delay n es) ∧ (s.ph ≠ .write → readCalls n es)) ∧
      (i = .init → (s.ph = .openPort → initCalls s.cfg es) ∧ (s.ph ≠ .openPort → addressCalls s.cfg es)))

/-! ### Frames: what an operation leaves unchanged -/

/-- 40_checksum.md rules R80 and R81, 41_codec.md rule R91: generate_checksum, verify_checksum and decode write no buffer,
make no port call, and leave `LS`; the two checksum operations leave words, status and payload as well. -/
def Obligations.CodecAndEngineFrame : Prop :=
  (∀ (b0 b1 c : Byte) (s t : State),
    (exec (.generateChecksum b0 b1) s = .next t ∨ exec (.verifyChecksum b0 b1 c) s = .next t) →
    t = { s with crc := t.crc, ret := t.ret, ph := t.ph, cur := t.cur }) ∧
  (∀ (n : Nat) (s t : State), exec (.decode n) s = .next t →
    t.ls = s.ls ∧ t.txlen = s.txlen ∧ t.rxlen = s.rxlen ∧ t.cfg = s.cfg ∧ t.requests = s.requests ∧
    t.script = s.script ∧ t.polls = s.polls ∧ t.trace = s.trace ∧
    (∀ a, Memory.read t.txb a = Memory.read s.txb a) ∧ (∀ a, Memory.read t.rxb a = Memory.read s.rxb a) ∧
    (t.st = .checksumError ∨ t.st = s.st ∧ t.errIdx = s.errIdx ∧ t.ioErr = s.ioErr ∧ t.rbool = s.rbool ∧
      t.ru32 = s.ru32 ∧ t.rstr = s.rstr ∧ t.rstrlen = s.rstrlen ∧ t.rrec = s.rrec)) ∧
  (∀ (opcode : Word) (args : List Word) (s t : State), exec (.encode opcode args) s = .next t →
    t = { s with txb := t.txb, txlen := t.txlen, idx := t.idx, crc := t.crc, ret := t.ret, ph := t.ph, cur := t.cur })

/-- 42_executor.md rules R100 and R101, 43_lifecycle.md rules R121, R122, R125, R126 and R130: an operation that only
writes (init, reset, start, stop, set_auto_clean_interval, write_command, write_command_with_args, and the bus frames
without a response) leaves `RXB` and the configuration, stores to `TXB` exactly its frame when it runs and nothing when it
does not, and writes `LS` only where rule R131 says; when it is no host operation it leaves the words, and the status and
payload registers unless the port fails. What the bus frames do to the core is the model's reading (log 11). -/
def Obligations.WritingOperationsFrame : Prop :=
  ∀ (i : Instr) (s t : State) (opcode : Word) (args : List Word),
    (i = .init ∨ exchangeOf s.cfg i = .command opcode args) → exec i s = .next t →
    t.cfg = s.cfg ∧ t.requests = s.requests ∧ t.rxlen = s.rxlen ∧
    (∀ a, Memory.read t.rxb a = Memory.read s.rxb a) ∧
    (i ≠ .init → i ≠ .start → i ≠ .stop → t.ls = s.ls) ∧
    (i ≠ .init → s.ph = .ready → guardCell i s.ls = .run →
      t.txlen = 2 + 3 * args.length ∧ ∀ a, Memory.read t.txb a = (frameOf opcode args)[a]?) ∧
    (i = .init ∨ s.ph = .write ∨ guardCell i s.ls ≠ .run →
      t.txlen = s.txlen ∧ ∀ a, Memory.read t.txb a = Memory.read s.txb a) ∧
    (i.isHostOp = false → t.w = s.w ∧ t.nw = s.nw ∧
      (t.st = .transportError ∨ t.st = s.st ∧ t.errIdx = s.errIdx ∧ t.ioErr = s.ioErr ∧ t.rbool = s.rbool ∧
        t.ru32 = s.ru32 ∧ t.rstr = s.rstr ∧ t.rstrlen = s.rstrlen ∧ t.rrec = s.rrec))

/-- 42_executor.md rules R102 and R103, 43_lifecycle.md rules R123, R124, R127, R128 and R129: an operation that reads
(the five reading host operations, read_delayed, read_command, and the bus frames with a response) leaves `LS`, the
configuration and the requests; it stores its bare opcode to `TXB` when it runs and nothing when it does not; `RXB` is
unchanged unless the last event this step appended is the answered read, and then holds exactly the bytes of that answer,
or no value after a failure; when it is no host operation it leaves the status and payload registers unless it fails. What
the bus frames do to the core is the model's reading (log 11); that `RXLEN` is 0 after a failed read is its choice
(log 13). -/
def Obligations.ReadingOperationsFrame : Prop :=
  ∀ (i : Instr) (s t : State) (opcode : Word) (delay n : Nat), exchangeOf s.cfg i = .query opcode delay n →
    exec i s = .next t →
    t.ls = s.ls ∧ t.cfg = s.cfg ∧ t.requests = s.requests ∧
    (s.ph = .ready → guardCell i s.ls = .run →
      t.txlen = 2 ∧ ∀ a, Memory.read t.txb a = (frameOf opcode [])[a]?) ∧
    (s.ph = .write ∨ s.ph = .read ∨ guardCell i s.ls ≠ .run →
      t.txlen = s.txlen ∧ ∀ a, Memory.read t.txb a = Memory.read s.txb a) ∧
    (∀ es, t.trace = s.trace ++ es → (∀ x, es.getLast? ≠ some (.call (.read (3 * n)) x)) →
      t.rxlen = s.rxlen ∧ ∀ a, Memory.read t.rxb a = Memory.read s.rxb a) ∧
    (∀ es bs, t.trace = s.trace ++ es ++ [.call (.read (3 * n)) (.ok bs)] →
      t.rxlen = 3 * n ∧ ∀ a, Memory.read t.rxb a = bs[a]?) ∧
    (∀ es e, t.trace = s.trace ++ es ++ [.call (.read (3 * n)) (.ioError e)] →
      t.rxlen = 0 ∧ ∀ a, Memory.read t.rxb a = none) ∧
    (i.isHostOp = false →
      t.st = .transportError ∨ t.st = .checksumError ∨ t.st = s.st ∧ t.errIdx = s.errIdx ∧ t.ioErr = s.ioErr ∧
        t.rbool = s.rbool ∧ t.ru32 = s.ru32 ∧ t.rstr = s.rstr ∧ t.rstrlen = s.rstrlen ∧ t.rrec = s.rrec)

/-! ### Invariants -/

/-- 10_state.md rule R31 (the values but `LS` are the spec's decision D29) and 70_reset_and_hazards.md rule R170. -/
def Obligations.ResetLeavesTheStatedValues : Prop :=
  State.reset.ls = .uninitialized ∧ State.reset.ph = .ready ∧ State.reset.idx = 0 ∧ State.reset.nw = 0 ∧
  (∀ i, State.reset.readW i = none) ∧ State.reset.crc = none ∧ State.reset.st = .ok ∧ State.reset.errIdx = none ∧
  State.reset.ioErr = none ∧ State.reset.txlen = 0 ∧ State.reset.rxlen = 0 ∧
  (∀ j, Memory.read State.reset.txb j = none ∧ Memory.read State.reset.rxb j = none) ∧
  State.reset.rbool = none ∧ State.reset.ru32 = none ∧ State.reset.rstrlen = none ∧ State.reset.rstr = [] ∧
  State.reset.rrec = none ∧ State.reset.trace = [] ∧ step State.reset = .next State.reset

/-- 10_state.md rules R20 to R27 and R31: the invariant holds after reset. -/
def Obligations.InvHoldsAtReset : Prop := State.reset.Inv

/-- 10_state.md rules R20, R22, R23, R25, R26 and R27, 20_memory.md rules R40 and R54: every step keeps the invariant. -/
def Obligations.EveryStepKeepsInv : Prop := ∀ s t : State, s.Inv → step s = .next t → t.Inv

/-- 10_state.md rule R32: no rule reads an element that holds no value. In the states a run keeps to no step faults and the
operation in progress is never refused; and the host's reading of a result never faults: after an error whatever the
operation was, and after every host operation that completes. -/
def Obligations.NoStepReadsAnElementWithoutValue : Prop :=
  ∀ s : State, s.Inv →
    (∀ f, step s ≠ .fault f) ∧ (s.cur ≠ none → ∃ t, step s = .next t) ∧
    (s.ph = .ready → s.st ≠ .ok → ∀ i, ∃ r, s.hostResult i = .ok r) ∧
    (∀ (i : Instr) (t : State), i.isHostOp = true → exec i s = .next t → t.ph = .ready → ∃ r, t.hostResult i = .ok r)

/-- 00_scope.md rule R5, 20_memory.md rules R48 (c) and R53: no step writes the configuration, and the port trace only
grows. -/
def Obligations.StepsExtendTheTraceAndKeepTheConfiguration : Prop :=
  ∀ s t : State, step s = .next t → t.cfg = s.cfg ∧ ∃ es, t.trace = s.trace ++ es

/-- 60_exceptions.md rule R151: a host operation ends with `TransportError(e)` exactly when a port call it made answered
`IoError(e)`, which is then the last event it caused; and it can do so in every state in which its body runs and makes a
port call. -/
def Obligations.TransportErrorExactlyOnIoError : Prop :=
  (∀ (i : Instr) (s t : State) (e : IoError), i.isHostOp = true → exec i s = .next t → t.ph = .ready →
    (t.st = .transportError ∧ t.ioErr = some e ↔ ∃ es c, t.trace = s.trace ++ es ++ [.call c (.ioError e)])) ∧
  (∀ (i : Instr) (s : State) (e : IoError) (rest : List (Option PortAnswer)), s.ph = .ready → i.isHostOp = true →
    guardCell i s.ls = .run → s.script = some (.ioError e) :: rest →
    ∃ t, exec i s = .next t ∧ t.st = .transportError ∧ t.ioErr = some e ∧ t.ls = s.ls ∧ t.ph = .ready)

/-- 60_exceptions.md rule R156: what each error and `return Ok` write; nothing else changes, `LS` and the buffers least of
all. Every error of the machine goes through `State.raise`, every `Ok` of a host operation through `State.returnOk`. -/
def Obligations.RaiseWritesTheStatusRegisters : Prop :=
  (∀ (s : State) (e : IoError),
    s.raise (.transport e) =
      { s with st := .transportError, ioErr := some e, errIdx := none, rbool := none, ru32 := none, rstr := [],
               rstrlen := none, rrec := none, ph := .ready, cur := none }) ∧
  (∀ (s : State) (i : Nat),
    s.raise (.checksum i) =
      { s with st := .checksumError, errIdx := some i, ioErr := none, nw := 0, w := [], rbool := none, ru32 := none,
               rstr := [], rstrlen := none, rrec := none, ph := .ready, cur := none }) ∧
  (∀ s : State,
    s.raise .state =
      { s with st := .stateError, errIdx := none, ioErr := none, rbool := none, ru32 := none, rstr := [],
               rstrlen := none, rrec := none, ph := .ready, cur := none }) ∧
  (∀ s : State, s.returnOk = { s with st := .ok, errIdx := none, ioErr := none, ph := .ready, cur := none }) ∧
  Status.ok.code = 0 ∧ Status.transportError.code = 1 ∧ Status.checksumError.code = 2 ∧ Status.stateError.code = 3

/-- The payload of a host operation that has ended `Ok` in state `t`: what the register it writes holds (10_state.md rules
R27 and R33). -/
def payloadOf (i : Instr) (t : State) (p : Payload) : Prop :=
  match i with
  | .getSerialNumber | .getProductNumber => t.rstrlen = some t.rstr.length ∧ p = .string t.rstr
  | .isNewDataAvailable => ∃ b, t.rbool = some b ∧ p = .bool b
  | .getMeasurement => ∃ r, t.rrec = some r ∧ p = .record r
  | .getAutoCleanInterval => ∃ u, t.ru32 = some u ∧ p = .u32 u
  | _ => p = .none

/-- 10_state.md rule R33: after a host operation the host sees `ST`; with `ChecksumError` the index, with `TransportError`
the port's value, with `Ok` the payload register that operation writes, none for the operations that return none. -/
def Obligations.CompletedOperationShowsItsTypedResult : Prop :=
  ∀ (i : Instr) (s t : State), s.Inv → i.isHostOp = true → exec i s = .next t → t.ph = .ready →
    (∃ p, payloadOf i t p ∧ t.st = .ok ∧ t.hostResult i = .ok (.ok p)) ∨
    (∃ e, t.st = .transportError ∧ t.ioErr = some e ∧ t.hostResult i = .ok (.transportError e)) ∨
    (∃ k, t.st = .checksumError ∧ t.errIdx = some k ∧ t.hostResult i = .ok (.checksumError k)) ∨
    (t.st = .stateError ∧ t.hostResult i = .ok .stateError)

/-- 10_state.md rule R32, 93_implementation_defined.md U7: reading an element that holds no value faults, naming it:
`RXB` in decode, at the first triplet that is not whole when every one before it verifies (41_codec.md rule R91), `TXB` in
a resumed write, `W` in each conversion, and `IOERR`, `ERRIDX` and the payload registers in the host's reading of a
result. -/
def Obligations.ReadingAnElementWithoutValueFaults : Prop :=
  (∀ (n : Nat) (s : State), s.ph = .ready → n ≤ s.cfg.maxW → s.rxlen = 3 * n →
    (∃ k < n, (∀ j < k, holdsGood s.rxb j) ∧ ∃ a, 3 * k ≤ a ∧ a < 3 * k + 3 ∧ Memory.read s.rxb a = none) →
    exec (.decode n) s = .fault (.noValue .rxb)) ∧
  (∀ (i : Instr) (s : State), s.ph = .write → s.cur = some i → i.wellFormed s.cfg = true → guardCell i s.ls = .run →
    exchangeOf s.cfg i ≠ .none → (∃ a < s.txlen, Memory.read s.txb a = none) → exec i s = .fault (.noValue .txb)) ∧
  (∀ s : State, (s.readW 0 = none → s.packBool = .fault (.noValue .w)) ∧
    ((∃ k < 2, s.readW k = none) → s.packU32 = .fault (.noValue .w)) ∧
    (∀ n, (∃ k < n, s.readW k = none) → s.packString n = .fault (.noValue .w)) ∧
    ((∃ k < 20, s.readW k = none) → s.packRecord = .fault (.noValue .w))) ∧
  (∀ s : State, (∀ i, s.st = .transportError → s.ioErr = none → s.hostResult i = .error (.noValue .ioErr)) ∧
    (∀ i, s.st = .checksumError → s.errIdx = none → s.hostResult i = .error (.noValue .errIdx)) ∧
    (s.st = .ok →
      (s.rbool = none → s.hostResult .isNewDataAvailable = .error (.noValue .rbool)) ∧
      (s.ru32 = none → s.hostResult .getAutoCleanInterval = .error (.noValue .ru32)) ∧
      (s.rrec = none → s.hostResult .getMeasurement = .error (.noValue .rrec)) ∧
      (s.rstrlen = none ∨ (∃ l, s.rstrlen = some l ∧ s.rstr.length < l) →
        s.hostResult .getSerialNumber = .error (.noValue .rstr) ∧
        s.hostResult .getProductNumber = .error (.noValue .rstr))))
end

