-- ==== Sys2Proof/Laws/Frame.lean ====
section
/-! SUPPORT. Bytes, words, triplets and frames: the small lemmas of Machine/Bits.lean and Machine/Frame.lean. -/

namespace Sys2Proof

@[simp] theorem hiByte_catBytes (h l : Byte) : hiByte (catBytes h l) = h := by
  simp only [hiByte, catBytes]
  ext i hi
  simp only [BitVec.getElem_extractLsb', BitVec.getLsbD_append]
  rw [if_neg (by omega), show 8 + i - 8 = i by omega, BitVec.getLsbD_eq_getElem hi]

@[simp] theorem loByte_catBytes (h l : Byte) : loByte (catBytes h l) = l := by
  simp only [loByte, catBytes]
  ext i hi
  simp only [BitVec.getElem_extractLsb', BitVec.getLsbD_append]
  rw [if_pos (by omega), Nat.zero_add, BitVec.getLsbD_eq_getElem hi]

@[simp] theorem catBytes_hi_lo (w : Word) : catBytes (hiByte w) (loByte w) = w := by
  simp only [hiByte, loByte, catBytes]
  ext i hi
  rw [BitVec.getElem_append]
  split
  · simp [BitVec.getLsbD_eq_getElem hi]
  · rw [BitVec.getElem_extractLsb', show 8 + (i - 8) = i by omega, BitVec.getLsbD_eq_getElem hi]

@[simp] theorem hiWord_catWords (a b : Word) : hiWord (catWords a b) = a := by
  simp only [hiWord, catWords]
  ext i hi
  simp only [BitVec.getElem_extractLsb', BitVec.getLsbD_append]
  rw [if_neg (by omega), show 16 + i - 16 = i by omega, BitVec.getLsbD_eq_getElem hi]

@[simp] theorem loWord_catWords (a b : Word) : loWord (catWords a b) = b := by
  simp only [loWord, catWords]
  ext i hi
  simp only [BitVec.getElem_extractLsb', BitVec.getLsbD_append]
  rw [if_pos (by omega), Nat.zero_add, BitVec.getLsbD_eq_getElem hi]

@[simp] theorem catWords_hi_lo (u : DWord) : catWords (hiWord u) (loWord u) = u := by
  simp only [hiWord, loWord, catWords]
  ext i hi
  rw [BitVec.getElem_append]
  split
  · simp [BitVec.getLsbD_eq_getElem hi]
  · rw [BitVec.getElem_extractLsb', show 16 + (i - 16) = i by omega, BitVec.getLsbD_eq_getElem hi]

@[simp] theorem length_responseOf (ws : List Word) : (responseOf ws).length = 3 * ws.length := by
  induction ws with
  | nil => rfl
  | cons w ws ih => simp [responseOf, wordTriplet, ih]; omega

@[simp] theorem length_frameOf (opcode : Word) (args : List Word) :
    (frameOf opcode args).length = 2 + 3 * args.length := by
  simp [frameOf]; omega

/-- The triplet a word is carried as. -/
def tripletOfWord (w : Word) : Triplet := ⟨hiByte w, loByte w, wordChecksum w⟩

@[simp] theorem word_tripletOfWord (w : Word) : (tripletOfWord w).word = w := catBytes_hi_lo w

@[simp] theorem intact_tripletOfWord (w : Word) : (tripletOfWord w).intact = true := by
  simp [Triplet.intact, tripletOfWord, verify, wordChecksum]

@[simp] theorem tripletsOf_responseOf (ws : List Word) : tripletsOf (responseOf ws) = ws.map tripletOfWord := by
  induction ws with
  | nil => rfl
  | cons w ws ih => simp [responseOf, wordTriplet, tripletsOf, ih, tripletOfWord]

theorem length_tripletsOf (bs : List Byte) (n : Nat) (h : bs.length = 3 * n) : (tripletsOf bs).length = n := by
  induction n generalizing bs with
  | zero => rw [List.length_eq_zero_iff.1 (by omega : bs.length = 0)]; rfl
  | succ n ih =>
    match bs, h with
    | a :: b :: c :: rest, h =>
      simp only [List.length_cons] at h
      simp [tripletsOf, ih rest (by omega)]

/-- Every word verifies exactly when there is no failing index. -/
theorem firstBad_eq_none (ts : List Triplet) : firstBad ts = none ↔ ∀ t ∈ ts, t.intact = true := by
  induction ts with
  | nil => simp [firstBad]
  | cons t ts ih =>
    rw [firstBad]
    cases ht : t.intact <;> simp [ht, ih]

/-- The failing index is the least one whose triplet fails (41_codec.md rule R91). -/
theorem firstBad_eq_some (ts : List Triplet) (k : Nat) :
    firstBad ts = some k ↔
      ∃ t, ts[k]? = some t ∧ t.intact = false ∧ ∀ j < k, ∀ u, ts[j]? = some u → u.intact = true := by
  induction ts generalizing k with
  | nil => simp [firstBad]
  | cons t ts ih =>
    rw [firstBad]
    cases ht : t.intact with
    | false =>
      cases k with
      | zero => simp [ht]
      | succ k =>
        simp only [Bool.false_eq_true, if_false, Option.some.injEq, List.getElem?_cons_succ]
        constructor
        · intro h; omega
        · rintro ⟨u, _, _, h⟩
          have := h 0 (by omega) t (by simp)
          simp [ht] at this
    | true =>
      cases k with
      | zero => simp [ht]
      | succ k =>
        simp only [if_true, Option.map_eq_some_iff, Nat.add_right_cancel_iff, exists_eq_right, ih,
          List.getElem?_cons_succ]
        constructor
        · rintro ⟨u, h1, h2, h3⟩
          refine ⟨u, h1, h2, fun j hj v hv => ?_⟩
          cases j with
          | zero => simp at hv; exact hv ▸ ht
          | succ j => exact h3 j (by omega) v (by simpa using hv)
        · rintro ⟨u, h1, h2, h3⟩
          exact ⟨u, h1, h2, fun j hj v hv => h3 (j + 1) (by omega) v (by simpa using hv)⟩

theorem firstBad_lt (ts : List Triplet) (k : Nat) (h : firstBad ts = some k) : k < ts.length := by
  obtain ⟨t, ht, -⟩ := (firstBad_eq_some ts k).1 h
  exact (List.getElem?_eq_some_iff.1 ht).1

@[simp] theorem firstBad_words (ws : List Word) : firstBad (ws.map tripletOfWord) = none := by
  simp [firstBad_eq_none]

/-- The triplets up to and with the first that fails: those that decode examines (41_codec.md rule R91). -/
def examined : List Triplet → List Triplet
  | [] => []
  | t :: ts => if t.intact then t :: examined ts else [t]

@[simp] theorem firstBad_examined (ts : List Triplet) : firstBad (examined ts) = firstBad ts := by
  induction ts with
  | nil => rfl
  | cons t ts ih => cases h : t.intact <;> simp [examined, firstBad, h, ih]

theorem examined_of_intact (ts : List Triplet) (h : firstBad ts = none) : examined ts = ts := by
  induction ts with
  | nil => rfl
  | cons t ts ih =>
    cases ht : t.intact with
    | false => simp [firstBad, ht] at h
    | true => simp only [firstBad, ht, if_true, Option.map_eq_none_iff] at h; simp [examined, ht, ih h]

theorem examined_of_bad (ts : List Triplet) (i : Nat) (h : firstBad ts = some i) : examined ts = ts.take (i + 1) := by
  induction ts generalizing i with
  | nil => cases h
  | cons t ts ih =>
    cases ht : t.intact with
    | false => simp only [firstBad, ht, Bool.false_eq_true, if_false, Option.some.injEq] at h; subst h; simp [examined, ht]
    | true =>
      simp only [firstBad, ht, if_true, Option.map_eq_some_iff] at h
      obtain ⟨k, hk, rfl⟩ := h
      simp [examined, ht, ih k hk]

end Sys2Proof
end

