-- ==== Sys2Proof/Laws/Memory.lean ====
section
/-! SUPPORT. The byte buffers: reads after writes, and that every write keeps the canonical form. -/

namespace Sys2Proof.Machine

/-- The cells of a byte string laid out from `a` on. -/
def cellsFrom (a : Nat) (bs : List Byte) : Memory :=
  match bs with
  | [] => []
  | b :: rest => (a, b) :: cellsFrom (a + 1) rest

theorem Memory.read_write_same (m : Memory) (a : Nat) (b : Byte) (h : m.wf) :
    Memory.read (Memory.write m a b) a = some b := by
  induction m with
  | nil => simp [Memory.write, Memory.read]
  | cons p m ih =>
    obtain ⟨x, y⟩ := p
    have hm : Memory.wf m := by
      cases m with
      | nil => rfl
      | cons q m => simp only [Memory.wf, Bool.and_eq_true] at h; exact h.2
    simp only [Memory.write]
    split
    · simp [Memory.read]
    · split
      · simp [Memory.read]
      · rw [Memory.read, if_neg (by omega)]; exact ih hm

theorem Memory.read_write_other (m : Memory) (a a' : Nat) (b : Byte) (h : a' ≠ a) :
    Memory.read (Memory.write m a b) a' = Memory.read m a' := by
  induction m with
  | nil => simp [Memory.write, Memory.read, h.symm]
  | cons p m ih =>
    obtain ⟨x, y⟩ := p
    simp only [Memory.write]
    split
    · rw [Memory.read, if_neg (by omega)]
    · split
      · next he => subst he; simp [Memory.read, h.symm]
      · simp only [Memory.read, ih]

theorem Memory.wf_cons (x : Nat) (y : Byte) (m : Memory) :
    Memory.wf ((x, y) :: m) = true ↔ (∀ q ∈ m, x < q.1) ∧ Memory.wf m = true := by
  induction m generalizing x y with
  | nil => simp [Memory.wf]
  | cons q m ih =>
    obtain ⟨u, v⟩ := q
    simp only [Memory.wf, Bool.and_eq_true, decide_eq_true_eq, List.mem_cons, forall_eq_or_imp]
    constructor
    · rintro ⟨h1, h2⟩
      exact ⟨⟨h1, fun q hq => Nat.lt_trans h1 (((ih u v).1 h2).1 q hq)⟩, h2⟩
    · rintro ⟨⟨h1, _⟩, h2⟩
      exact ⟨h1, h2⟩

theorem Memory.mem_write (m : Memory) (a : Nat) (b : Byte) :
    ∀ q ∈ Memory.write m a b, q.1 = a ∨ q ∈ m := by
  induction m with
  | nil => simp [Memory.write]
  | cons p m ih =>
    obtain ⟨x, y⟩ := p
    intro q hq
    simp only [Memory.write] at hq
    split at hq
    · simp only [List.mem_cons] at hq ⊢; rcases hq with rfl | h <;> simp_all
    · split at hq
      · simp only [List.mem_cons] at hq ⊢; rcases hq with rfl | h <;> simp_all
      · simp only [List.mem_cons] at hq ⊢
        rcases hq with rfl | h
        · simp
        · rcases ih q h with h | h <;> simp_all

/-- A write keeps the canonical form. -/
theorem Memory.write_wf (m : Memory) (a : Nat) (b : Byte) (h : m.wf) : (Memory.write m a b).wf := by
  induction m with
  | nil => rfl
  | cons p m ih =>
    obtain ⟨x, y⟩ := p
    obtain ⟨h1, h2⟩ := (Memory.wf_cons x y m).1 h
    simp only [Memory.write]
    split
    · next hlt =>
      refine (Memory.wf_cons ..).2 ⟨fun q hq => ?_, h⟩
      rcases List.mem_cons.1 hq with rfl | hq
      · exact hlt
      · exact Nat.lt_trans hlt (h1 q hq)
    · split
      · next he => subst he; exact (Memory.wf_cons ..).2 ⟨h1, h2⟩
      · refine (Memory.wf_cons ..).2 ⟨fun q hq => ?_, ih h2⟩
        rcases Memory.mem_write m a b q hq with hq | hq
        · omega
        · exact h1 q hq

/-- A multi-byte write keeps the canonical form. -/
theorem Memory.writeBytes_wf (m : Memory) (a : Nat) (bs : List Byte) (h : m.wf) : (Memory.writeBytes m a bs).wf := by
  induction bs generalizing m a with
  | nil => exact h
  | cons b bs ih => exact ih _ _ (Memory.write_wf m a b h)

theorem Memory.write_above (m : Memory) (a : Nat) (b : Byte) (h : ∀ q ∈ m, q.1 < a) :
    Memory.write m a b = m ++ [(a, b)] := by
  induction m with
  | nil => rfl
  | cons p m ih =>
    obtain ⟨x, y⟩ := p
    have hx : x < a := h (x, y) (by simp)
    rw [Memory.write, if_neg (by omega), if_neg (by omega), ih fun q hq => h q (by simp [hq])]
    rfl

theorem Memory.writeBytes_above (m : Memory) (a : Nat) (bs : List Byte) (h : ∀ q ∈ m, q.1 < a) :
    Memory.writeBytes m a bs = m ++ cellsFrom a bs := by
  induction bs generalizing m a with
  | nil => simp [Memory.writeBytes, cellsFrom]
  | cons b bs ih =>
    rw [Memory.writeBytes, Memory.write_above m a b h, ih, cellsFrom, List.append_assoc]
    · rfl
    · intro q hq
      rcases List.mem_append.1 hq with hq | hq
      · exact Nat.lt_trans (h q hq) (Nat.lt_succ_self a)
      · simp_all

/-- A whole buffer written from index 0 is exactly its bytes, in order. -/
@[simp] theorem Memory.writeBytes_nil (bs : List Byte) : Memory.writeBytes [] 0 bs = cellsFrom 0 bs := by
  simpa using Memory.writeBytes_above [] 0 bs (by simp)

theorem Memory.read_cellsFrom (a : Nat) (bs : List Byte) (x : Nat) :
    Memory.read (cellsFrom a bs) x = if a ≤ x then bs[x - a]? else none := by
  induction bs generalizing a with
  | nil => simp [cellsFrom, Memory.read]
  | cons b bs ih =>
    rw [cellsFrom, Memory.read]
    split
    · next h => subst h; simp
    · next h =>
      rw [ih]
      by_cases hx : a ≤ x
      · rw [if_pos (by omega), if_pos hx, show x - a = (x - (a + 1)) + 1 by omega, List.getElem?_cons_succ]
      · rw [if_neg (by omega), if_neg hx]

/-- Byte `x` of a whole buffer. -/
theorem Memory.read_buffer (bs : List Byte) (x : Nat) : Memory.read (cellsFrom 0 bs) x = bs[x]? := by
  simp [Memory.read_cellsFrom]

theorem Memory.readBytes_cellsFrom (a k : Nat) (bs : List Byte) (h : k ≤ bs.length) :
    Memory.readBytes (cellsFrom a bs) (a + k) (bs.length - k) = some (bs.drop k) := by
  induction hn : bs.length - k generalizing k with
  | zero => simp [Memory.readBytes, List.drop_eq_nil_of_le (show bs.length ≤ k by omega)]
  | succ n ih =>
    have hk : k < bs.length := by omega
    have hr := ih (k + 1) (by omega) (by omega)
    rw [Memory.readBytes, Memory.read_cellsFrom, if_pos (by omega), show a + k - a = k by omega,
      List.getElem?_eq_getElem hk, show a + k + 1 = a + (k + 1) by omega, hr]
    simp

/-- A whole buffer reads back as the bytes written. -/
@[simp] theorem Memory.readBytes_buffer (bs : List Byte) :
    Memory.readBytes (cellsFrom 0 bs) 0 bs.length = some bs := by
  simpa using Memory.readBytes_cellsFrom 0 0 bs (Nat.zero_le _)

/-- The indices of a whole buffer are `0 .. length-1` (20_memory.md rule R40). -/
theorem cellsFrom_indices (a : Nat) (bs : List Byte) : (cellsFrom a bs).map Prod.fst = List.range' a bs.length := by
  induction bs generalizing a with
  | nil => rfl
  | cons b bs ih => simp [cellsFrom, ih, List.range'_succ]

/-- A buffer whose indices are `0 .. n-1` reads as `n` bytes. -/
theorem Memory.readBytes_of_indices (m : Memory) (a n : Nat) (h : m.map Prod.fst = List.range' a n) :
    ∃ bs, m = cellsFrom a bs ∧ bs.length = n := by
  induction n generalizing m a with
  | zero => exact ⟨[], by simpa [cellsFrom] using h, rfl⟩
  | succ n ih =>
    cases m with
    | nil => simp [List.range'_succ] at h
    | cons p m =>
      obtain ⟨x, y⟩ := p
      simp only [List.map_cons, List.range'_succ, List.cons.injEq] at h
      obtain ⟨rfl, h⟩ := h
      obtain ⟨bs, rfl, rfl⟩ := ih m (x + 1) h
      exact ⟨y :: bs, rfl, rfl⟩

theorem Memory.wf_cellsFrom (a : Nat) (bs : List Byte) : (cellsFrom a bs).wf := by
  induction bs generalizing a with
  | nil => rfl
  | cons b bs ih =>
    refine (Memory.wf_cons ..).2 ⟨fun q hq => ?_, ih (a + 1)⟩
    have := List.mem_map_of_mem (f := Prod.fst) hq
    rw [cellsFrom_indices, List.mem_range'_1] at this
    exact this.1

/-- Both buffers are in canonical form after reset. -/
theorem State.reset_memory_wf : State.reset.txb.wf = true ∧ State.reset.rxb.wf = true := ⟨rfl, rfl⟩

end Sys2Proof.Machine
end

