-- ==== Sys2Proof/Laws/PerInstr.lean ====
section
/-! SUPPORT. Per instruction: its encoding carries the fixed bits of its row of spec/opcode_table.json (30_encoding.md
rule R72). -/

namespace Sys2Proof.Laws.TableRow

/-- The three spaces of the table. -/
inductive Space where
  | hostRequest
  | unitOperation
  | busFrame
deriving DecidableEq, Repr

/-- A row of the table: its space, how many bits its words have, how many of them are free (the low ones, where the mask
is 0), and the value of the others. -/
structure Row where
  space : Space
  bits : Nat
  free : Nat
  value : Nat
deriving DecidableEq, Repr

/-- The rows, as spec/opcode_table.json writes them (bus rows in the suggested opcodes, log 4). -/
def rowOf (i : Instr) : Row :=
  match i with
  | .init => ⟨.hostRequest, 5, 0, 0x00⟩
  | .reset => ⟨.hostRequest, 5, 0, 0x01⟩
  | .getSerialNumber => ⟨.hostRequest, 5, 0, 0x02⟩
  | .getProductNumber => ⟨.hostRequest, 5, 0, 0x03⟩
  | .start => ⟨.hostRequest, 5, 0, 0x04⟩
  | .stop => ⟨.hostRequest, 5, 0, 0x05⟩
  | .isNewDataAvailable => ⟨.hostRequest, 5, 0, 0x06⟩
  | .getMeasurement => ⟨.hostRequest, 5, 0, 0x07⟩
  | .getAutoCleanInterval => ⟨.hostRequest, 5, 0, 0x08⟩
  | .setAutoCleanInterval _ => ⟨.hostRequest, 5, 0, 0x09⟩
  | .generateChecksum _ _ => ⟨.unitOperation, 5, 0, 0x10⟩
  | .verifyChecksum _ _ _ => ⟨.unitOperation, 5, 0, 0x11⟩
  | .encode _ _ => ⟨.unitOperation, 5, 0, 0x12⟩
  | .decode _ => ⟨.unitOperation, 5, 0, 0x13⟩
  | .writeCommand _ => ⟨.unitOperation, 5, 0, 0x14⟩
  | .writeCommandWithArgs _ _ => ⟨.unitOperation, 5, 0, 0x15⟩
  | .readDelayed _ _ _ => ⟨.unitOperation, 5, 0, 0x16⟩
  | .readCommand _ _ => ⟨.unitOperation, 5, 0, 0x17⟩
  | .reserved0A0B _ => ⟨.hostRequest, 5, 1, 0x0A / 2⟩
  | .reserved0C0F _ => ⟨.hostRequest, 5, 2, 0x0C / 4⟩
  | .reserved181F _ => ⟨.hostRequest, 5, 3, 0x18 / 8⟩
  | .busReset => ⟨.busFrame, 16, 0, 0xD304⟩
  | .busGetSerialNumber => ⟨.busFrame, 16, 0, 0xD033⟩
  | .busGetProductNumber => ⟨.busFrame, 16, 0, 0xD025⟩
  | .busStart _ _ => ⟨.busFrame, 40, 24, 0x0010⟩
  | .busStop => ⟨.busFrame, 16, 0, 0x0104⟩
  | .busIsNewDataAvailable => ⟨.busFrame, 16, 0, 0x0202⟩
  | .busGetMeasurement => ⟨.busFrame, 16, 0, 0x0300⟩
  | .busGetAutoCleanInterval => ⟨.busFrame, 16, 0, 0x8004⟩
  | .busSetAutoCleanInterval _ _ _ _ => ⟨.busFrame, 64, 48, 0x8004⟩

/-- A request of the row's space whose bits above the free ones are the row's. -/
def Fits (r : Request) (row : Row) : Prop :=
  match r with
  | .host opid _ => row.space = .hostRequest ∧ row.bits = 5 ∧ opid.toNat / 2 ^ row.free = row.value
  | .unitOp opid _ => row.space = .unitOperation ∧ row.bits = 5 ∧ opid.toNat / 2 ^ row.free = row.value
  | .frame bytes => row.space = .busFrame ∧ row.bits = 8 * bytes.length ∧ beNumber bytes / 2 ^ row.free = row.value

/-- The encoding of an instruction fits its row. -/
def Statement (i : Instr) : Prop := Fits (Sys2Proof.encode Config.suggested i) (rowOf i)

theorem init : Statement .init := ⟨rfl, rfl, rfl⟩
theorem reset : Statement .reset := ⟨rfl, rfl, rfl⟩
theorem getSerialNumber : Statement .getSerialNumber := ⟨rfl, rfl, rfl⟩
theorem getProductNumber : Statement .getProductNumber := ⟨rfl, rfl, rfl⟩
theorem start : Statement .start := ⟨rfl, rfl, rfl⟩
theorem stop : Statement .stop := ⟨rfl, rfl, rfl⟩
theorem isNewDataAvailable : Statement .isNewDataAvailable := ⟨rfl, rfl, rfl⟩
theorem getMeasurement : Statement .getMeasurement := ⟨rfl, rfl, rfl⟩
theorem getAutoCleanInterval : Statement .getAutoCleanInterval := ⟨rfl, rfl, rfl⟩
theorem setAutoCleanInterval (seconds : DWord) : Statement (.setAutoCleanInterval seconds) := ⟨rfl, rfl, by simp [rowOf]⟩
theorem generateChecksum (b0 b1 : Byte) : Statement (.generateChecksum b0 b1) := ⟨rfl, rfl, by simp [rowOf]⟩
theorem verifyChecksum (b0 b1 c : Byte) : Statement (.verifyChecksum b0 b1 c) := ⟨rfl, rfl, by simp [rowOf]⟩
theorem encode (opcode : Word) (args : List Word) : Statement (.encode opcode args) := ⟨rfl, rfl, by simp [rowOf]⟩
theorem decode (n : Nat) : Statement (.decode n) := ⟨rfl, rfl, by simp [rowOf]⟩
theorem writeCommand (opcode : Word) : Statement (.writeCommand opcode) := ⟨rfl, rfl, by simp [rowOf]⟩
theorem writeCommandWithArgs (opcode : Word) (words : List Word) : Statement (.writeCommandWithArgs opcode words) :=
  ⟨rfl, rfl, by simp [rowOf]⟩
theorem readDelayed (opcode : Word) (delay n : Nat) : Statement (.readDelayed opcode delay n) := ⟨rfl, rfl, by simp [rowOf]⟩
theorem readCommand (opcode : Word) (n : Nat) : Statement (.readCommand opcode n) := ⟨rfl, rfl, by simp [rowOf]⟩

theorem reserved0A0B (k : BitVec 1) : Statement (.reserved0A0B k) := by
  refine ⟨rfl, rfl, ?_⟩
  revert k; decide

theorem reserved0C0F (k : BitVec 2) : Statement (.reserved0C0F k) := by
  refine ⟨rfl, rfl, ?_⟩
  revert k; decide

theorem reserved181F (k : BitVec 3) : Statement (.reserved181F k) := by
  refine ⟨rfl, rfl, ?_⟩
  revert k; decide

theorem busReset : Statement .busReset := ⟨rfl, rfl, by decide⟩
theorem busGetSerialNumber : Statement .busGetSerialNumber := ⟨rfl, rfl, by decide⟩
theorem busGetProductNumber : Statement .busGetProductNumber := ⟨rfl, rfl, by decide⟩

theorem busStart (a : Word) (c : Byte) : Statement (.busStart a c) := by
  refine ⟨rfl, rfl, ?_⟩
  have ha := (hiByte a).isLt
  have hb := (loByte a).isLt
  have hc := c.isLt
  simp only [opcodeBytes, argBytes, beNumber, rowOf, List.cons_append, List.nil_append, List.foldl_cons, List.foldl_nil,
    show (hiByte Config.suggested.opcStart).toNat = 0x00 by decide,
    show (loByte Config.suggested.opcStart).toNat = 0x10 by decide]
  omega

theorem busStop : Statement .busStop := ⟨rfl, rfl, by decide⟩
theorem busIsNewDataAvailable : Statement .busIsNewDataAvailable := ⟨rfl, rfl, by decide⟩
theorem busGetMeasurement : Statement .busGetMeasurement := ⟨rfl, rfl, by decide⟩
theorem busGetAutoCleanInterval : Statement .busGetAutoCleanInterval := ⟨rfl, rfl, by decide⟩

theorem busSetAutoCleanInterval (a : Word) (c : Byte) (b : Word) (d : Byte) :
    Statement (.busSetAutoCleanInterval a c b d) := by
  refine ⟨rfl, rfl, ?_⟩
  have h1 := (hiByte a).isLt
  have h2 := (loByte a).isLt
  have h3 := c.isLt
  have h4 := (hiByte b).isLt
  have h5 := (loByte b).isLt
  have h6 := d.isLt
  simp only [opcodeBytes, argBytes, beNumber, rowOf, List.cons_append, List.nil_append, List.foldl_cons, List.foldl_nil,
    show (hiByte Config.suggested.opcAutoclean).toNat = 0x80 by decide,
    show (loByte Config.suggested.opcAutoclean).toNat = 0x04 by decide]
  omega

end Sys2Proof.Laws.TableRow
end

