-- ==== Sys2Proof/Laws/State.lean ====
section
/-! SUPPORT. What each named update of the state does to each field: one lemma per field per update. -/

namespace Sys2Proof.Machine

variable (s : State)

/-! ### `complete` -/

@[simp] theorem State.complete_ls : (s.complete).ls = s.ls := rfl
@[simp] theorem State.complete_w : (s.complete).w = s.w := rfl
@[simp] theorem State.complete_nw : (s.complete).nw = s.nw := rfl
@[simp] theorem State.complete_ph : (s.complete).ph = .ready := rfl
@[simp] theorem State.complete_idx : (s.complete).idx = s.idx := rfl
@[simp] theorem State.complete_crc : (s.complete).crc = s.crc := rfl
@[simp] theorem State.complete_st : (s.complete).st = s.st := rfl
@[simp] theorem State.complete_errIdx : (s.complete).errIdx = s.errIdx := rfl
@[simp] theorem State.complete_ioErr : (s.complete).ioErr = s.ioErr := rfl
@[simp] theorem State.complete_txb : (s.complete).txb = s.txb := rfl
@[simp] theorem State.complete_txlen : (s.complete).txlen = s.txlen := rfl
@[simp] theorem State.complete_rxb : (s.complete).rxb = s.rxb := rfl
@[simp] theorem State.complete_rxlen : (s.complete).rxlen = s.rxlen := rfl
@[simp] theorem State.complete_rbool : (s.complete).rbool = s.rbool := rfl
@[simp] theorem State.complete_ru32 : (s.complete).ru32 = s.ru32 := rfl
@[simp] theorem State.complete_rstr : (s.complete).rstr = s.rstr := rfl
@[simp] theorem State.complete_rstrlen : (s.complete).rstrlen = s.rstrlen := rfl
@[simp] theorem State.complete_rrec : (s.complete).rrec = s.rrec := rfl
@[simp] theorem State.complete_ret : (s.complete).ret = s.ret := rfl
@[simp] theorem State.complete_cur : (s.complete).cur = none := rfl
@[simp] theorem State.complete_cfg : (s.complete).cfg = s.cfg := rfl
@[simp] theorem State.complete_requests : (s.complete).requests = s.requests := rfl
@[simp] theorem State.complete_script : (s.complete).script = s.script := rfl
@[simp] theorem State.complete_polls : (s.complete).polls = s.polls := rfl
@[simp] theorem State.complete_trace : (s.complete).trace = s.trace := rfl

/-! ### `clearPayload` -/

@[simp] theorem State.clearPayload_ls : (s.clearPayload).ls = s.ls := rfl
@[simp] theorem State.clearPayload_w : (s.clearPayload).w = s.w := rfl
@[simp] theorem State.clearPayload_nw : (s.clearPayload).nw = s.nw := rfl
@[simp] theorem State.clearPayload_ph : (s.clearPayload).ph = s.ph := rfl
@[simp] theorem State.clearPayload_idx : (s.clearPayload).idx = s.idx := rfl
@[simp] theorem State.clearPayload_crc : (s.clearPayload).crc = s.crc := rfl
@[simp] theorem State.clearPayload_st : (s.clearPayload).st = s.st := rfl
@[simp] theorem State.clearPayload_errIdx : (s.clearPayload).errIdx = s.errIdx := rfl
@[simp] theorem State.clearPayload_ioErr : (s.clearPayload).ioErr = s.ioErr := rfl
@[simp] theorem State.clearPayload_txb : (s.clearPayload).txb = s.txb := rfl
@[simp] theorem State.clearPayload_txlen : (s.clearPayload).txlen = s.txlen := rfl
@[simp] theorem State.clearPayload_rxb : (s.clearPayload).rxb = s.rxb := rfl
@[simp] theorem State.clearPayload_rxlen : (s.clearPayload).rxlen = s.rxlen := rfl
@[simp] theorem State.clearPayload_rbool : (s.clearPayload).rbool = none := rfl
@[simp] theorem State.clearPayload_ru32 : (s.clearPayload).ru32 = none := rfl
@[simp] theorem State.clearPayload_rstr : (s.clearPayload).rstr = [] := rfl
@[simp] theorem State.clearPayload_rstrlen : (s.clearPayload).rstrlen = none := rfl
@[simp] theorem State.clearPayload_rrec : (s.clearPayload).rrec = none := rfl
@[simp] theorem State.clearPayload_ret : (s.clearPayload).ret = s.ret := rfl
@[simp] theorem State.clearPayload_cur : (s.clearPayload).cur = s.cur := rfl
@[simp] theorem State.clearPayload_cfg : (s.clearPayload).cfg = s.cfg := rfl
@[simp] theorem State.clearPayload_requests : (s.clearPayload).requests = s.requests := rfl
@[simp] theorem State.clearPayload_script : (s.clearPayload).script = s.script := rfl
@[simp] theorem State.clearPayload_polls : (s.clearPayload).polls = s.polls := rfl
@[simp] theorem State.clearPayload_trace : (s.clearPayload).trace = s.trace := rfl

/-! ### `clearWords` -/

@[simp] theorem State.clearWords_ls : (s.clearWords).ls = s.ls := rfl
@[simp] theorem State.clearWords_w : (s.clearWords).w = [] := rfl
@[simp] theorem State.clearWords_nw : (s.clearWords).nw = 0 := rfl
@[simp] theorem State.clearWords_ph : (s.clearWords).ph = s.ph := rfl
@[simp] theorem State.clearWords_idx : (s.clearWords).idx = s.idx := rfl
@[simp] theorem State.clearWords_crc : (s.clearWords).crc = s.crc := rfl
@[simp] theorem State.clearWords_st : (s.clearWords).st = s.st := rfl
@[simp] theorem State.clearWords_errIdx : (s.clearWords).errIdx = s.errIdx := rfl
@[simp] theorem State.clearWords_ioErr : (s.clearWords).ioErr = s.ioErr := rfl
@[simp] theorem State.clearWords_txb : (s.clearWords).txb = s.txb := rfl
@[simp] theorem State.clearWords_txlen : (s.clearWords).txlen = s.txlen := rfl
@[simp] theorem State.clearWords_rxb : (s.clearWords).rxb = s.rxb := rfl
@[simp] theorem State.clearWords_rxlen : (s.clearWords).rxlen = s.rxlen := rfl
@[simp] theorem State.clearWords_rbool : (s.clearWords).rbool = s.rbool := rfl
@[simp] theorem State.clearWords_ru32 : (s.clearWords).ru32 = s.ru32 := rfl
@[simp] theorem State.clearWords_rstr : (s.clearWords).rstr = s.rstr := rfl
@[simp] theorem State.clearWords_rstrlen : (s.clearWords).rstrlen = s.rstrlen := rfl
@[simp] theorem State.clearWords_rrec : (s.clearWords).rrec = s.rrec := rfl
@[simp] theorem State.clearWords_ret : (s.clearWords).ret = s.ret := rfl
@[simp] theorem State.clearWords_cur : (s.clearWords).cur = s.cur := rfl
@[simp] theorem State.clearWords_cfg : (s.clearWords).cfg = s.cfg := rfl
@[simp] theorem State.clearWords_requests : (s.clearWords).requests = s.requests := rfl
@[simp] theorem State.clearWords_script : (s.clearWords).script = s.script := rfl
@[simp] theorem State.clearWords_polls : (s.clearWords).polls = s.polls := rfl
@[simp] theorem State.clearWords_trace : (s.clearWords).trace = s.trace := rfl

/-! ### `returnOk` -/

@[simp] theorem State.returnOk_ls : (s.returnOk).ls = s.ls := rfl
@[simp] theorem State.returnOk_w : (s.returnOk).w = s.w := rfl
@[simp] theorem State.returnOk_nw : (s.returnOk).nw = s.nw := rfl
@[simp] theorem State.returnOk_ph : (s.returnOk).ph = .ready := rfl
@[simp] theorem State.returnOk_idx : (s.returnOk).idx = s.idx := rfl
@[simp] theorem State.returnOk_crc : (s.returnOk).crc = s.crc := rfl
@[simp] theorem State.returnOk_st : (s.returnOk).st = .ok := rfl
@[simp] theorem State.returnOk_errIdx : (s.returnOk).errIdx = none := rfl
@[simp] theorem State.returnOk_ioErr : (s.returnOk).ioErr = none := rfl
@[simp] theorem State.returnOk_txb : (s.returnOk).txb = s.txb := rfl
@[simp] theorem State.returnOk_txlen : (s.returnOk).txlen = s.txlen := rfl
@[simp] theorem State.returnOk_rxb : (s.returnOk).rxb = s.rxb := rfl
@[simp] theorem State.returnOk_rxlen : (s.returnOk).rxlen = s.rxlen := rfl
@[simp] theorem State.returnOk_rbool : (s.returnOk).rbool = s.rbool := rfl
@[simp] theorem State.returnOk_ru32 : (s.returnOk).ru32 = s.ru32 := rfl
@[simp] theorem State.returnOk_rstr : (s.returnOk).rstr = s.rstr := rfl
@[simp] theorem State.returnOk_rstrlen : (s.returnOk).rstrlen = s.rstrlen := rfl
@[simp] theorem State.returnOk_rrec : (s.returnOk).rrec = s.rrec := rfl
@[simp] theorem State.returnOk_ret : (s.returnOk).ret = s.ret := rfl
@[simp] theorem State.returnOk_cur : (s.returnOk).cur = none := rfl
@[simp] theorem State.returnOk_cfg : (s.returnOk).cfg = s.cfg := rfl
@[simp] theorem State.returnOk_requests : (s.returnOk).requests = s.requests := rfl
@[simp] theorem State.returnOk_script : (s.returnOk).script = s.script := rfl
@[simp] theorem State.returnOk_polls : (s.returnOk).polls = s.polls := rfl
@[simp] theorem State.returnOk_trace : (s.returnOk).trace = s.trace := rfl

/-! ### `returnUnit` -/

@[simp] theorem State.returnUnit_ls (v : Returned) : (s.returnUnit v).ls = s.ls := rfl
@[simp] theorem State.returnUnit_w (v : Returned) : (s.returnUnit v).w = s.w := rfl
@[simp] theorem State.returnUnit_nw (v : Returned) : (s.returnUnit v).nw = s.nw := rfl
@[simp] theorem State.returnUnit_ph (v : Returned) : (s.returnUnit v).ph = .ready := rfl
@[simp] theorem State.returnUnit_idx (v : Returned) : (s.returnUnit v).idx = s.idx := rfl
@[simp] theorem State.returnUnit_crc (v : Returned) : (s.returnUnit v).crc = s.crc := rfl
@[simp] theorem State.returnUnit_st (v : Returned) : (s.returnUnit v).st = s.st := rfl
@[simp] theorem State.returnUnit_errIdx (v : Returned) : (s.returnUnit v).errIdx = s.errIdx := rfl
@[simp] theorem State.returnUnit_ioErr (v : Returned) : (s.returnUnit v).ioErr = s.ioErr := rfl
@[simp] theorem State.returnUnit_txb (v : Returned) : (s.returnUnit v).txb = s.txb := rfl
@[simp] theorem State.returnUnit_txlen (v : Returned) : (s.returnUnit v).txlen = s.txlen := rfl
@[simp] theorem State.returnUnit_rxb (v : Returned) : (s.returnUnit v).rxb = s.rxb := rfl
@[simp] theorem State.returnUnit_rxlen (v : Returned) : (s.returnUnit v).rxlen = s.rxlen := rfl
@[simp] theorem State.returnUnit_rbool (v : Returned) : (s.returnUnit v).rbool = s.rbool := rfl
@[simp] theorem State.returnUnit_ru32 (v : Returned) : (s.returnUnit v).ru32 = s.ru32 := rfl
@[simp] theorem State.returnUnit_rstr (v : Returned) : (s.returnUnit v).rstr = s.rstr := rfl
@[simp] theorem State.returnUnit_rstrlen (v : Returned) : (s.returnUnit v).rstrlen = s.rstrlen := rfl
@[simp] theorem State.returnUnit_rrec (v : Returned) : (s.returnUnit v).rrec = s.rrec := rfl
@[simp] theorem State.returnUnit_ret (v : Returned) : (s.returnUnit v).ret = some v := rfl
@[simp] theorem State.returnUnit_cur (v : Returned) : (s.returnUnit v).cur = none := rfl
@[simp] theorem State.returnUnit_cfg (v : Returned) : (s.returnUnit v).cfg = s.cfg := rfl
@[simp] theorem State.returnUnit_requests (v : Returned) : (s.returnUnit v).requests = s.requests := rfl
@[simp] theorem State.returnUnit_script (v : Returned) : (s.returnUnit v).script = s.script := rfl
@[simp] theorem State.returnUnit_polls (v : Returned) : (s.returnUnit v).polls = s.polls := rfl
@[simp] theorem State.returnUnit_trace (v : Returned) : (s.returnUnit v).trace = s.trace := rfl

/-! ### `acceptHost` -/

@[simp] theorem State.acceptHost_ls (i : Instr) : (s.acceptHost i).ls = s.ls := rfl
@[simp] theorem State.acceptHost_w (i : Instr) : (s.acceptHost i).w = [] := rfl
@[simp] theorem State.acceptHost_nw (i : Instr) : (s.acceptHost i).nw = 0 := rfl
@[simp] theorem State.acceptHost_ph (i : Instr) : (s.acceptHost i).ph = .guard := rfl
@[simp] theorem State.acceptHost_idx (i : Instr) : (s.acceptHost i).idx = s.idx := rfl
@[simp] theorem State.acceptHost_crc (i : Instr) : (s.acceptHost i).crc = s.crc := rfl
@[simp] theorem State.acceptHost_st (i : Instr) : (s.acceptHost i).st = s.st := rfl
@[simp] theorem State.acceptHost_errIdx (i : Instr) : (s.acceptHost i).errIdx = none := rfl
@[simp] theorem State.acceptHost_ioErr (i : Instr) : (s.acceptHost i).ioErr = none := rfl
@[simp] theorem State.acceptHost_txb (i : Instr) : (s.acceptHost i).txb = s.txb := rfl
@[simp] theorem State.acceptHost_txlen (i : Instr) : (s.acceptHost i).txlen = s.txlen := rfl
@[simp] theorem State.acceptHost_rxb (i : Instr) : (s.acceptHost i).rxb = s.rxb := rfl
@[simp] theorem State.acceptHost_rxlen (i : Instr) : (s.acceptHost i).rxlen = s.rxlen := rfl
@[simp] theorem State.acceptHost_rbool (i : Instr) : (s.acceptHost i).rbool = none := rfl
@[simp] theorem State.acceptHost_ru32 (i : Instr) : (s.acceptHost i).ru32 = none := rfl
@[simp] theorem State.acceptHost_rstr (i : Instr) : (s.acceptHost i).rstr = [] := rfl
@[simp] theorem State.acceptHost_rstrlen (i : Instr) : (s.acceptHost i).rstrlen = none := rfl
@[simp] theorem State.acceptHost_rrec (i : Instr) : (s.acceptHost i).rrec = none := rfl
@[simp] theorem State.acceptHost_ret (i : Instr) : (s.acceptHost i).ret = none := rfl
@[simp] theorem State.acceptHost_cur (i : Instr) : (s.acceptHost i).cur = some i := rfl
@[simp] theorem State.acceptHost_cfg (i : Instr) : (s.acceptHost i).cfg = s.cfg := rfl
@[simp] theorem State.acceptHost_requests (i : Instr) : (s.acceptHost i).requests = s.requests := rfl
@[simp] theorem State.acceptHost_script (i : Instr) : (s.acceptHost i).script = s.script := rfl
@[simp] theorem State.acceptHost_polls (i : Instr) : (s.acceptHost i).polls = s.polls := rfl
@[simp] theorem State.acceptHost_trace (i : Instr) : (s.acceptHost i).trace = s.trace := rfl

/-! ### `acceptUnit` -/

@[simp] theorem State.acceptUnit_ls (i : Instr) : (s.acceptUnit i).ls = s.ls := rfl
@[simp] theorem State.acceptUnit_w (i : Instr) : (s.acceptUnit i).w = s.w := rfl
@[simp] theorem State.acceptUnit_nw (i : Instr) : (s.acceptUnit i).nw = s.nw := rfl
@[simp] theorem State.acceptUnit_ph (i : Instr) : (s.acceptUnit i).ph = s.ph := rfl
@[simp] theorem State.acceptUnit_idx (i : Instr) : (s.acceptUnit i).idx = s.idx := rfl
@[simp] theorem State.acceptUnit_crc (i : Instr) : (s.acceptUnit i).crc = s.crc := rfl
@[simp] theorem State.acceptUnit_st (i : Instr) : (s.acceptUnit i).st = s.st := rfl
@[simp] theorem State.acceptUnit_errIdx (i : Instr) : (s.acceptUnit i).errIdx = s.errIdx := rfl
@[simp] theorem State.acceptUnit_ioErr (i : Instr) : (s.acceptUnit i).ioErr = s.ioErr := rfl
@[simp] theorem State.acceptUnit_txb (i : Instr) : (s.acceptUnit i).txb = s.txb := rfl
@[simp] theorem State.acceptUnit_txlen (i : Instr) : (s.acceptUnit i).txlen = s.txlen := rfl
@[simp] theorem State.acceptUnit_rxb (i : Instr) : (s.acceptUnit i).rxb = s.rxb := rfl
@[simp] theorem State.acceptUnit_rxlen (i : Instr) : (s.acceptUnit i).rxlen = s.rxlen := rfl
@[simp] theorem State.acceptUnit_rbool (i : Instr) : (s.acceptUnit i).rbool = s.rbool := rfl
@[simp] theorem State.acceptUnit_ru32 (i : Instr) : (s.acceptUnit i).ru32 = s.ru32 := rfl
@[simp] theorem State.acceptUnit_rstr (i : Instr) : (s.acceptUnit i).rstr = s.rstr := rfl
@[simp] theorem State.acceptUnit_rstrlen (i : Instr) : (s.acceptUnit i).rstrlen = s.rstrlen := rfl
@[simp] theorem State.acceptUnit_rrec (i : Instr) : (s.acceptUnit i).rrec = s.rrec := rfl
@[simp] theorem State.acceptUnit_ret (i : Instr) : (s.acceptUnit i).ret = none := rfl
@[simp] theorem State.acceptUnit_cur (i : Instr) : (s.acceptUnit i).cur = some i := rfl
@[simp] theorem State.acceptUnit_cfg (i : Instr) : (s.acceptUnit i).cfg = s.cfg := rfl
@[simp] theorem State.acceptUnit_requests (i : Instr) : (s.acceptUnit i).requests = s.requests := rfl
@[simp] theorem State.acceptUnit_script (i : Instr) : (s.acceptUnit i).script = s.script := rfl
@[simp] theorem State.acceptUnit_polls (i : Instr) : (s.acceptUnit i).polls = s.polls := rfl
@[simp] theorem State.acceptUnit_trace (i : Instr) : (s.acceptUnit i).trace = s.trace := rfl

/-! ### `record` -/

@[simp] theorem State.record_ls (e : PortEvent) : (s.record e).ls = s.ls := rfl
@[simp] theorem State.record_w (e : PortEvent) : (s.record e).w = s.w := rfl
@[simp] theorem State.record_nw (e : PortEvent) : (s.record e).nw = s.nw := rfl
@[simp] theorem State.record_ph (e : PortEvent) : (s.record e).ph = s.ph := rfl
@[simp] theorem State.record_idx (e : PortEvent) : (s.record e).idx = s.idx := rfl
@[simp] theorem State.record_crc (e : PortEvent) : (s.record e).crc = s.crc := rfl
@[simp] theorem State.record_st (e : PortEvent) : (s.record e).st = s.st := rfl
@[simp] theorem State.record_errIdx (e : PortEvent) : (s.record e).errIdx = s.errIdx := rfl
@[simp] theorem State.record_ioErr (e : PortEvent) : (s.record e).ioErr = s.ioErr := rfl
@[simp] theorem State.record_txb (e : PortEvent) : (s.record e).txb = s.txb := rfl
@[simp] theorem State.record_txlen (e : PortEvent) : (s.record e).txlen = s.txlen := rfl
@[simp] theorem State.record_rxb (e : PortEvent) : (s.record e).rxb = s.rxb := rfl
@[simp] theorem State.record_rxlen (e : PortEvent) : (s.record e).rxlen = s.rxlen := rfl
@[simp] theorem State.record_rbool (e : PortEvent) : (s.record e).rbool = s.rbool := rfl
@[simp] theorem State.record_ru32 (e : PortEvent) : (s.record e).ru32 = s.ru32 := rfl
@[simp] theorem State.record_rstr (e : PortEvent) : (s.record e).rstr = s.rstr := rfl
@[simp] theorem State.record_rstrlen (e : PortEvent) : (s.record e).rstrlen = s.rstrlen := rfl
@[simp] theorem State.record_rrec (e : PortEvent) : (s.record e).rrec = s.rrec := rfl
@[simp] theorem State.record_ret (e : PortEvent) : (s.record e).ret = s.ret := rfl
@[simp] theorem State.record_cur (e : PortEvent) : (s.record e).cur = s.cur := rfl
@[simp] theorem State.record_cfg (e : PortEvent) : (s.record e).cfg = s.cfg := rfl
@[simp] theorem State.record_requests (e : PortEvent) : (s.record e).requests = s.requests := rfl
@[simp] theorem State.record_script (e : PortEvent) : (s.record e).script = s.script := rfl
@[simp] theorem State.record_polls (e : PortEvent) : (s.record e).polls = s.polls := rfl
@[simp] theorem State.record_trace (e : PortEvent) : (s.record e).trace = s.trace ++ [e] := rfl

/-! ### `polled` -/

@[simp] theorem State.polled_ls : (s.polled).ls = s.ls := rfl
@[simp] theorem State.polled_w : (s.polled).w = s.w := rfl
@[simp] theorem State.polled_nw : (s.polled).nw = s.nw := rfl
@[simp] theorem State.polled_ph : (s.polled).ph = s.ph := rfl
@[simp] theorem State.polled_idx : (s.polled).idx = s.idx := rfl
@[simp] theorem State.polled_crc : (s.polled).crc = s.crc := rfl
@[simp] theorem State.polled_st : (s.polled).st = s.st := rfl
@[simp] theorem State.polled_errIdx : (s.polled).errIdx = s.errIdx := rfl
@[simp] theorem State.polled_ioErr : (s.polled).ioErr = s.ioErr := rfl
@[simp] theorem State.polled_txb : (s.polled).txb = s.txb := rfl
@[simp] theorem State.polled_txlen : (s.polled).txlen = s.txlen := rfl
@[simp] theorem State.polled_rxb : (s.polled).rxb = s.rxb := rfl
@[simp] theorem State.polled_rxlen : (s.polled).rxlen = s.rxlen := rfl
@[simp] theorem State.polled_rbool : (s.polled).rbool = s.rbool := rfl
@[simp] theorem State.polled_ru32 : (s.polled).ru32 = s.ru32 := rfl
@[simp] theorem State.polled_rstr : (s.polled).rstr = s.rstr := rfl
@[simp] theorem State.polled_rstrlen : (s.polled).rstrlen = s.rstrlen := rfl
@[simp] theorem State.polled_rrec : (s.polled).rrec = s.rrec := rfl
@[simp] theorem State.polled_ret : (s.polled).ret = s.ret := rfl
@[simp] theorem State.polled_cur : (s.polled).cur = s.cur := rfl
@[simp] theorem State.polled_cfg : (s.polled).cfg = s.cfg := rfl
@[simp] theorem State.polled_requests : (s.polled).requests = s.requests := rfl
@[simp] theorem State.polled_script : (s.polled).script = s.script.tail := rfl
@[simp] theorem State.polled_polls : (s.polled).polls = if s.script.isEmpty then s.polls + 1 else s.polls := rfl
@[simp] theorem State.polled_trace : (s.polled).trace = s.trace := rfl

/-! ### `encodeFrame` -/

@[simp] theorem State.encodeFrame_ls (opcode : Word) (args : List Word) : (s.encodeFrame opcode args).ls = s.ls := rfl
@[simp] theorem State.encodeFrame_w (opcode : Word) (args : List Word) : (s.encodeFrame opcode args).w = s.w := rfl
@[simp] theorem State.encodeFrame_nw (opcode : Word) (args : List Word) : (s.encodeFrame opcode args).nw = s.nw := rfl
@[simp] theorem State.encodeFrame_ph (opcode : Word) (args : List Word) : (s.encodeFrame opcode args).ph = .encode := rfl
@[simp] theorem State.encodeFrame_idx (opcode : Word) (args : List Word) : (s.encodeFrame opcode args).idx = args.length := rfl
@[simp] theorem State.encodeFrame_crc (opcode : Word) (args : List Word) : (s.encodeFrame opcode args).crc = crcAfterWords args s.crc := rfl
@[simp] theorem State.encodeFrame_st (opcode : Word) (args : List Word) : (s.encodeFrame opcode args).st = s.st := rfl
@[simp] theorem State.encodeFrame_errIdx (opcode : Word) (args : List Word) : (s.encodeFrame opcode args).errIdx = s.errIdx := rfl
@[simp] theorem State.encodeFrame_ioErr (opcode : Word) (args : List Word) : (s.encodeFrame opcode args).ioErr = s.ioErr := rfl
@[simp] theorem State.encodeFrame_txb (opcode : Word) (args : List Word) : (s.encodeFrame opcode args).txb = Memory.writeBytes [] 0 (frameOf opcode args) := rfl
@[simp] theorem State.encodeFrame_txlen (opcode : Word) (args : List Word) : (s.encodeFrame opcode args).txlen = 2 + 3 * args.length := rfl
@[simp] theorem State.encodeFrame_rxb (opcode : Word) (args : List Word) : (s.encodeFrame opcode args).rxb = s.rxb := rfl
@[simp] theorem State.encodeFrame_rxlen (opcode : Word) (args : List Word) : (s.encodeFrame opcode args).rxlen = s.rxlen := rfl
@[simp] theorem State.encodeFrame_rbool (opcode : Word) (args : List Word) : (s.encodeFrame opcode args).rbool = s.rbool := rfl
@[simp] theorem State.encodeFrame_ru32 (opcode : Word) (args : List Word) : (s.encodeFrame opcode args).ru32 = s.ru32 := rfl
@[simp] theorem State.encodeFrame_rstr (opcode : Word) (args : List Word) : (s.encodeFrame opcode args).rstr = s.rstr := rfl
@[simp] theorem State.encodeFrame_rstrlen (opcode : Word) (args : List Word) : (s.encodeFrame opcode args).rstrlen = s.rstrlen := rfl
@[simp] theorem State.encodeFrame_rrec (opcode : Word) (args : List Word) : (s.encodeFrame opcode args).rrec = s.rrec := rfl
@[simp] theorem State.encodeFrame_ret (opcode : Word) (args : List Word) : (s.encodeFrame opcode args).ret = s.ret := rfl
@[simp] theorem State.encodeFrame_cur (opcode : Word) (args : List Word) : (s.encodeFrame opcode args).cur = s.cur := rfl
@[simp] theorem State.encodeFrame_cfg (opcode : Word) (args : List Word) : (s.encodeFrame opcode args).cfg = s.cfg := rfl
@[simp] theorem State.encodeFrame_requests (opcode : Word) (args : List Word) : (s.encodeFrame opcode args).requests = s.requests := rfl
@[simp] theorem State.encodeFrame_script (opcode : Word) (args : List Word) : (s.encodeFrame opcode args).script = s.script := rfl
@[simp] theorem State.encodeFrame_polls (opcode : Word) (args : List Word) : (s.encodeFrame opcode args).polls = s.polls := rfl
@[simp] theorem State.encodeFrame_trace (opcode : Word) (args : List Word) : (s.encodeFrame opcode args).trace = s.trace := rfl

/-! ### `loadResponse` -/

@[simp] theorem State.loadResponse_ls (n : Nat) (bs : List Byte) : (s.loadResponse n bs).ls = s.ls := rfl
@[simp] theorem State.loadResponse_w (n : Nat) (bs : List Byte) : (s.loadResponse n bs).w = s.w := rfl
@[simp] theorem State.loadResponse_nw (n : Nat) (bs : List Byte) : (s.loadResponse n bs).nw = s.nw := rfl
@[simp] theorem State.loadResponse_ph (n : Nat) (bs : List Byte) : (s.loadResponse n bs).ph = s.ph := rfl
@[simp] theorem State.loadResponse_idx (n : Nat) (bs : List Byte) : (s.loadResponse n bs).idx = s.idx := rfl
@[simp] theorem State.loadResponse_crc (n : Nat) (bs : List Byte) : (s.loadResponse n bs).crc = s.crc := rfl
@[simp] theorem State.loadResponse_st (n : Nat) (bs : List Byte) : (s.loadResponse n bs).st = s.st := rfl
@[simp] theorem State.loadResponse_errIdx (n : Nat) (bs : List Byte) : (s.loadResponse n bs).errIdx = s.errIdx := rfl
@[simp] theorem State.loadResponse_ioErr (n : Nat) (bs : List Byte) : (s.loadResponse n bs).ioErr = s.ioErr := rfl
@[simp] theorem State.loadResponse_txb (n : Nat) (bs : List Byte) : (s.loadResponse n bs).txb = s.txb := rfl
@[simp] theorem State.loadResponse_txlen (n : Nat) (bs : List Byte) : (s.loadResponse n bs).txlen = s.txlen := rfl
@[simp] theorem State.loadResponse_rxb (n : Nat) (bs : List Byte) : (s.loadResponse n bs).rxb = Memory.writeBytes [] 0 bs := rfl
@[simp] theorem State.loadResponse_rxlen (n : Nat) (bs : List Byte) : (s.loadResponse n bs).rxlen = 3 * n := rfl
@[simp] theorem State.loadResponse_rbool (n : Nat) (bs : List Byte) : (s.loadResponse n bs).rbool = s.rbool := rfl
@[simp] theorem State.loadResponse_ru32 (n : Nat) (bs : List Byte) : (s.loadResponse n bs).ru32 = s.ru32 := rfl
@[simp] theorem State.loadResponse_rstr (n : Nat) (bs : List Byte) : (s.loadResponse n bs).rstr = s.rstr := rfl
@[simp] theorem State.loadResponse_rstrlen (n : Nat) (bs : List Byte) : (s.loadResponse n bs).rstrlen = s.rstrlen := rfl
@[simp] theorem State.loadResponse_rrec (n : Nat) (bs : List Byte) : (s.loadResponse n bs).rrec = s.rrec := rfl
@[simp] theorem State.loadResponse_ret (n : Nat) (bs : List Byte) : (s.loadResponse n bs).ret = s.ret := rfl
@[simp] theorem State.loadResponse_cur (n : Nat) (bs : List Byte) : (s.loadResponse n bs).cur = s.cur := rfl
@[simp] theorem State.loadResponse_cfg (n : Nat) (bs : List Byte) : (s.loadResponse n bs).cfg = s.cfg := rfl
@[simp] theorem State.loadResponse_requests (n : Nat) (bs : List Byte) : (s.loadResponse n bs).requests = s.requests := rfl
@[simp] theorem State.loadResponse_script (n : Nat) (bs : List Byte) : (s.loadResponse n bs).script = s.script := rfl
@[simp] theorem State.loadResponse_polls (n : Nat) (bs : List Byte) : (s.loadResponse n bs).polls = s.polls := rfl
@[simp] theorem State.loadResponse_trace (n : Nat) (bs : List Byte) : (s.loadResponse n bs).trace = s.trace := rfl

/-! ### `dropResponse` -/

@[simp] theorem State.dropResponse_ls : (s.dropResponse).ls = s.ls := rfl
@[simp] theorem State.dropResponse_w : (s.dropResponse).w = [] := rfl
@[simp] theorem State.dropResponse_nw : (s.dropResponse).nw = 0 := rfl
@[simp] theorem State.dropResponse_ph : (s.dropResponse).ph = s.ph := rfl
@[simp] theorem State.dropResponse_idx : (s.dropResponse).idx = s.idx := rfl
@[simp] theorem State.dropResponse_crc : (s.dropResponse).crc = s.crc := rfl
@[simp] theorem State.dropResponse_st : (s.dropResponse).st = s.st := rfl
@[simp] theorem State.dropResponse_errIdx : (s.dropResponse).errIdx = s.errIdx := rfl
@[simp] theorem State.dropResponse_ioErr : (s.dropResponse).ioErr = s.ioErr := rfl
@[simp] theorem State.dropResponse_txb : (s.dropResponse).txb = s.txb := rfl
@[simp] theorem State.dropResponse_txlen : (s.dropResponse).txlen = s.txlen := rfl
@[simp] theorem State.dropResponse_rxb : (s.dropResponse).rxb = [] := rfl
@[simp] theorem State.dropResponse_rxlen : (s.dropResponse).rxlen = 0 := rfl
@[simp] theorem State.dropResponse_rbool : (s.dropResponse).rbool = s.rbool := rfl
@[simp] theorem State.dropResponse_ru32 : (s.dropResponse).ru32 = s.ru32 := rfl
@[simp] theorem State.dropResponse_rstr : (s.dropResponse).rstr = s.rstr := rfl
@[simp] theorem State.dropResponse_rstrlen : (s.dropResponse).rstrlen = s.rstrlen := rfl
@[simp] theorem State.dropResponse_rrec : (s.dropResponse).rrec = s.rrec := rfl
@[simp] theorem State.dropResponse_ret : (s.dropResponse).ret = s.ret := rfl
@[simp] theorem State.dropResponse_cur : (s.dropResponse).cur = s.cur := rfl
@[simp] theorem State.dropResponse_cfg : (s.dropResponse).cfg = s.cfg := rfl
@[simp] theorem State.dropResponse_requests : (s.dropResponse).requests = s.requests := rfl
@[simp] theorem State.dropResponse_script : (s.dropResponse).script = s.script := rfl
@[simp] theorem State.dropResponse_polls : (s.dropResponse).polls = s.polls := rfl
@[simp] theorem State.dropResponse_trace : (s.dropResponse).trace = s.trace := rfl

/-! ### `take` -/

@[simp] theorem State.take_ls (rest : List Request) : (s.take rest).ls = s.ls := rfl
@[simp] theorem State.take_w (rest : List Request) : (s.take rest).w = s.w := rfl
@[simp] theorem State.take_nw (rest : List Request) : (s.take rest).nw = s.nw := rfl
@[simp] theorem State.take_ph (rest : List Request) : (s.take rest).ph = s.ph := rfl
@[simp] theorem State.take_idx (rest : List Request) : (s.take rest).idx = s.idx := rfl
@[simp] theorem State.take_crc (rest : List Request) : (s.take rest).crc = s.crc := rfl
@[simp] theorem State.take_st (rest : List Request) : (s.take rest).st = s.st := rfl
@[simp] theorem State.take_errIdx (rest : List Request) : (s.take rest).errIdx = s.errIdx := rfl
@[simp] theorem State.take_ioErr (rest : List Request) : (s.take rest).ioErr = s.ioErr := rfl
@[simp] theorem State.take_txb (rest : List Request) : (s.take rest).txb = s.txb := rfl
@[simp] theorem State.take_txlen (rest : List Request) : (s.take rest).txlen = s.txlen := rfl
@[simp] theorem State.take_rxb (rest : List Request) : (s.take rest).rxb = s.rxb := rfl
@[simp] theorem State.take_rxlen (rest : List Request) : (s.take rest).rxlen = s.rxlen := rfl
@[simp] theorem State.take_rbool (rest : List Request) : (s.take rest).rbool = s.rbool := rfl
@[simp] theorem State.take_ru32 (rest : List Request) : (s.take rest).ru32 = s.ru32 := rfl
@[simp] theorem State.take_rstr (rest : List Request) : (s.take rest).rstr = s.rstr := rfl
@[simp] theorem State.take_rstrlen (rest : List Request) : (s.take rest).rstrlen = s.rstrlen := rfl
@[simp] theorem State.take_rrec (rest : List Request) : (s.take rest).rrec = s.rrec := rfl
@[simp] theorem State.take_ret (rest : List Request) : (s.take rest).ret = s.ret := rfl
@[simp] theorem State.take_cur (rest : List Request) : (s.take rest).cur = s.cur := rfl
@[simp] theorem State.take_cfg (rest : List Request) : (s.take rest).cfg = s.cfg := rfl
@[simp] theorem State.take_requests (rest : List Request) : (s.take rest).requests = rest := rfl
@[simp] theorem State.take_script (rest : List Request) : (s.take rest).script = s.script := rfl
@[simp] theorem State.take_polls (rest : List Request) : (s.take rest).polls = s.polls := rfl
@[simp] theorem State.take_trace (rest : List Request) : (s.take rest).trace = s.trace := rfl

/-! ### `raise`: the error entry (60_exceptions.md rule R156) -/

@[simp] theorem State.raise_ls (e : SensorError) : (s.raise e).ls = s.ls := by cases e <;> rfl
@[simp] theorem State.raise_idx (e : SensorError) : (s.raise e).idx = s.idx := by cases e <;> rfl
@[simp] theorem State.raise_crc (e : SensorError) : (s.raise e).crc = s.crc := by cases e <;> rfl
@[simp] theorem State.raise_txb (e : SensorError) : (s.raise e).txb = s.txb := by cases e <;> rfl
@[simp] theorem State.raise_txlen (e : SensorError) : (s.raise e).txlen = s.txlen := by cases e <;> rfl
@[simp] theorem State.raise_rxb (e : SensorError) : (s.raise e).rxb = s.rxb := by cases e <;> rfl
@[simp] theorem State.raise_rxlen (e : SensorError) : (s.raise e).rxlen = s.rxlen := by cases e <;> rfl
@[simp] theorem State.raise_ret (e : SensorError) : (s.raise e).ret = s.ret := by cases e <;> rfl
@[simp] theorem State.raise_cfg (e : SensorError) : (s.raise e).cfg = s.cfg := by cases e <;> rfl
@[simp] theorem State.raise_requests (e : SensorError) : (s.raise e).requests = s.requests := by cases e <;> rfl
@[simp] theorem State.raise_script (e : SensorError) : (s.raise e).script = s.script := by cases e <;> rfl
@[simp] theorem State.raise_polls (e : SensorError) : (s.raise e).polls = s.polls := by cases e <;> rfl
@[simp] theorem State.raise_trace (e : SensorError) : (s.raise e).trace = s.trace := by cases e <;> rfl
@[simp] theorem State.raise_rbool (e : SensorError) : (s.raise e).rbool = none := by cases e <;> rfl
@[simp] theorem State.raise_ru32 (e : SensorError) : (s.raise e).ru32 = none := by cases e <;> rfl
@[simp] theorem State.raise_rstr (e : SensorError) : (s.raise e).rstr = [] := by cases e <;> rfl
@[simp] theorem State.raise_rstrlen (e : SensorError) : (s.raise e).rstrlen = none := by cases e <;> rfl
@[simp] theorem State.raise_rrec (e : SensorError) : (s.raise e).rrec = none := by cases e <;> rfl
@[simp] theorem State.raise_ph (e : SensorError) : (s.raise e).ph = .ready := by cases e <;> rfl
@[simp] theorem State.raise_cur (e : SensorError) : (s.raise e).cur = none := by cases e <;> rfl
@[simp] theorem State.raise_transport_st (e : IoError) : (s.raise (.transport e)).st = .transportError := rfl
@[simp] theorem State.raise_transport_errIdx (e : IoError) : (s.raise (.transport e)).errIdx = none := rfl
@[simp] theorem State.raise_transport_ioErr (e : IoError) : (s.raise (.transport e)).ioErr = some e := rfl
@[simp] theorem State.raise_transport_nw (e : IoError) : (s.raise (.transport e)).nw = s.nw := rfl
@[simp] theorem State.raise_transport_w (e : IoError) : (s.raise (.transport e)).w = s.w := rfl
@[simp] theorem State.raise_checksum_st (i : Nat) : (s.raise (.checksum i)).st = .checksumError := rfl
@[simp] theorem State.raise_checksum_errIdx (i : Nat) : (s.raise (.checksum i)).errIdx = some i := rfl
@[simp] theorem State.raise_checksum_ioErr (i : Nat) : (s.raise (.checksum i)).ioErr = none := rfl
@[simp] theorem State.raise_checksum_nw (i : Nat) : (s.raise (.checksum i)).nw = 0 := rfl
@[simp] theorem State.raise_checksum_w (i : Nat) : (s.raise (.checksum i)).w = [] := rfl
@[simp] theorem State.raise_state_st : (s.raise .state).st = .stateError := rfl
@[simp] theorem State.raise_state_errIdx : (s.raise .state).errIdx = none := rfl
@[simp] theorem State.raise_state_ioErr : (s.raise .state).ioErr = none := rfl
@[simp] theorem State.raise_state_nw : (s.raise .state).nw = s.nw := rfl
@[simp] theorem State.raise_state_w : (s.raise .state).w = s.w := rfl

/-! ### `settle`: the delay writes the phase and the trace -/

@[simp] theorem State.settle_ls (us : Nat) : (s.settle us).ls = s.ls := by unfold State.settle; split <;> rfl
@[simp] theorem State.settle_w (us : Nat) : (s.settle us).w = s.w := by unfold State.settle; split <;> rfl
@[simp] theorem State.settle_nw (us : Nat) : (s.settle us).nw = s.nw := by unfold State.settle; split <;> rfl
@[simp] theorem State.settle_idx (us : Nat) : (s.settle us).idx = s.idx := by unfold State.settle; split <;> rfl
@[simp] theorem State.settle_crc (us : Nat) : (s.settle us).crc = s.crc := by unfold State.settle; split <;> rfl
@[simp] theorem State.settle_st (us : Nat) : (s.settle us).st = s.st := by unfold State.settle; split <;> rfl
@[simp] theorem State.settle_errIdx (us : Nat) : (s.settle us).errIdx = s.errIdx := by unfold State.settle; split <;> rfl
@[simp] theorem State.settle_ioErr (us : Nat) : (s.settle us).ioErr = s.ioErr := by unfold State.settle; split <;> rfl
@[simp] theorem State.settle_txb (us : Nat) : (s.settle us).txb = s.txb := by unfold State.settle; split <;> rfl
@[simp] theorem State.settle_txlen (us : Nat) : (s.settle us).txlen = s.txlen := by unfold State.settle; split <;> rfl
@[simp] theorem State.settle_rxb (us : Nat) : (s.settle us).rxb = s.rxb := by unfold State.settle; split <;> rfl
@[simp] theorem State.settle_rxlen (us : Nat) : (s.settle us).rxlen = s.rxlen := by unfold State.settle; split <;> rfl
@[simp] theorem State.settle_rbool (us : Nat) : (s.settle us).rbool = s.rbool := by unfold State.settle; split <;> rfl
@[simp] theorem State.settle_ru32 (us : Nat) : (s.settle us).ru32 = s.ru32 := by unfold State.settle; split <;> rfl
@[simp] theorem State.settle_rstr (us : Nat) : (s.settle us).rstr = s.rstr := by unfold State.settle; split <;> rfl
@[simp] theorem State.settle_rstrlen (us : Nat) : (s.settle us).rstrlen = s.rstrlen := by unfold State.settle; split <;> rfl
@[simp] theorem State.settle_rrec (us : Nat) : (s.settle us).rrec = s.rrec := by unfold State.settle; split <;> rfl
@[simp] theorem State.settle_ret (us : Nat) : (s.settle us).ret = s.ret := by unfold State.settle; split <;> rfl
@[simp] theorem State.settle_cur (us : Nat) : (s.settle us).cur = s.cur := by unfold State.settle; split <;> rfl
@[simp] theorem State.settle_cfg (us : Nat) : (s.settle us).cfg = s.cfg := by unfold State.settle; split <;> rfl
@[simp] theorem State.settle_requests (us : Nat) : (s.settle us).requests = s.requests := by unfold State.settle; split <;> rfl
@[simp] theorem State.settle_script (us : Nat) : (s.settle us).script = s.script := by unfold State.settle; split <;> rfl
@[simp] theorem State.settle_polls (us : Nat) : (s.settle us).polls = s.polls := by unfold State.settle; split <;> rfl

theorem State.settle_trace (us : Nat) :
    (s.settle us).trace = s.trace ++ (if us = 0 then [] else [.delay us]) := by
  unfold State.settle; split <;> simp

/-! ### `putBool` -/

@[simp] theorem State.putBool_ls (b : Bool) : (s.putBool b).ls = s.ls := rfl
@[simp] theorem State.putBool_w (b : Bool) : (s.putBool b).w = s.w := rfl
@[simp] theorem State.putBool_nw (b : Bool) : (s.putBool b).nw = s.nw := rfl
@[simp] theorem State.putBool_ph (b : Bool) : (s.putBool b).ph = .pack := rfl
@[simp] theorem State.putBool_idx (b : Bool) : (s.putBool b).idx = s.idx := rfl
@[simp] theorem State.putBool_crc (b : Bool) : (s.putBool b).crc = s.crc := rfl
@[simp] theorem State.putBool_st (b : Bool) : (s.putBool b).st = s.st := rfl
@[simp] theorem State.putBool_errIdx (b : Bool) : (s.putBool b).errIdx = s.errIdx := rfl
@[simp] theorem State.putBool_ioErr (b : Bool) : (s.putBool b).ioErr = s.ioErr := rfl
@[simp] theorem State.putBool_txb (b : Bool) : (s.putBool b).txb = s.txb := rfl
@[simp] theorem State.putBool_txlen (b : Bool) : (s.putBool b).txlen = s.txlen := rfl
@[simp] theorem State.putBool_rxb (b : Bool) : (s.putBool b).rxb = s.rxb := rfl
@[simp] theorem State.putBool_rxlen (b : Bool) : (s.putBool b).rxlen = s.rxlen := rfl
@[simp] theorem State.putBool_rbool (b : Bool) : (s.putBool b).rbool = some b := rfl
@[simp] theorem State.putBool_ru32 (b : Bool) : (s.putBool b).ru32 = s.ru32 := rfl
@[simp] theorem State.putBool_rstr (b : Bool) : (s.putBool b).rstr = s.rstr := rfl
@[simp] theorem State.putBool_rstrlen (b : Bool) : (s.putBool b).rstrlen = s.rstrlen := rfl
@[simp] theorem State.putBool_rrec (b : Bool) : (s.putBool b).rrec = s.rrec := rfl
@[simp] theorem State.putBool_ret (b : Bool) : (s.putBool b).ret = s.ret := rfl
@[simp] theorem State.putBool_cur (b : Bool) : (s.putBool b).cur = s.cur := rfl
@[simp] theorem State.putBool_cfg (b : Bool) : (s.putBool b).cfg = s.cfg := rfl
@[simp] theorem State.putBool_requests (b : Bool) : (s.putBool b).requests = s.requests := rfl
@[simp] theorem State.putBool_script (b : Bool) : (s.putBool b).script = s.script := rfl
@[simp] theorem State.putBool_polls (b : Bool) : (s.putBool b).polls = s.polls := rfl
@[simp] theorem State.putBool_trace (b : Bool) : (s.putBool b).trace = s.trace := rfl

/-! ### `putU32` -/

@[simp] theorem State.putU32_ls (u : DWord) : (s.putU32 u).ls = s.ls := rfl
@[simp] theorem State.putU32_w (u : DWord) : (s.putU32 u).w = s.w := rfl
@[simp] theorem State.putU32_nw (u : DWord) : (s.putU32 u).nw = s.nw := rfl
@[simp] theorem State.putU32_ph (u : DWord) : (s.putU32 u).ph = .pack := rfl
@[simp] theorem State.putU32_idx (u : DWord) : (s.putU32 u).idx = s.idx := rfl
@[simp] theorem State.putU32_crc (u : DWord) : (s.putU32 u).crc = s.crc := rfl
@[simp] theorem State.putU32_st (u : DWord) : (s.putU32 u).st = s.st := rfl
@[simp] theorem State.putU32_errIdx (u : DWord) : (s.putU32 u).errIdx = s.errIdx := rfl
@[simp] theorem State.putU32_ioErr (u : DWord) : (s.putU32 u).ioErr = s.ioErr := rfl
@[simp] theorem State.putU32_txb (u : DWord) : (s.putU32 u).txb = s.txb := rfl
@[simp] theorem State.putU32_txlen (u : DWord) : (s.putU32 u).txlen = s.txlen := rfl
@[simp] theorem State.putU32_rxb (u : DWord) : (s.putU32 u).rxb = s.rxb := rfl
@[simp] theorem State.putU32_rxlen (u : DWord) : (s.putU32 u).rxlen = s.rxlen := rfl
@[simp] theorem State.putU32_rbool (u : DWord) : (s.putU32 u).rbool = s.rbool := rfl
@[simp] theorem State.putU32_ru32 (u : DWord) : (s.putU32 u).ru32 = some u := rfl
@[simp] theorem State.putU32_rstr (u : DWord) : (s.putU32 u).rstr = s.rstr := rfl
@[simp] theorem State.putU32_rstrlen (u : DWord) : (s.putU32 u).rstrlen = s.rstrlen := rfl
@[simp] theorem State.putU32_rrec (u : DWord) : (s.putU32 u).rrec = s.rrec := rfl
@[simp] theorem State.putU32_ret (u : DWord) : (s.putU32 u).ret = s.ret := rfl
@[simp] theorem State.putU32_cur (u : DWord) : (s.putU32 u).cur = s.cur := rfl
@[simp] theorem State.putU32_cfg (u : DWord) : (s.putU32 u).cfg = s.cfg := rfl
@[simp] theorem State.putU32_requests (u : DWord) : (s.putU32 u).requests = s.requests := rfl
@[simp] theorem State.putU32_script (u : DWord) : (s.putU32 u).script = s.script := rfl
@[simp] theorem State.putU32_polls (u : DWord) : (s.putU32 u).polls = s.polls := rfl
@[simp] theorem State.putU32_trace (u : DWord) : (s.putU32 u).trace = s.trace := rfl

/-! ### `putString` -/

@[simp] theorem State.putString_ls (bs : List Byte) : (s.putString bs).ls = s.ls := rfl
@[simp] theorem State.putString_w (bs : List Byte) : (s.putString bs).w = s.w := rfl
@[simp] theorem State.putString_nw (bs : List Byte) : (s.putString bs).nw = s.nw := rfl
@[simp] theorem State.putString_ph (bs : List Byte) : (s.putString bs).ph = .pack := rfl
@[simp] theorem State.putString_idx (bs : List Byte) : (s.putString bs).idx = s.idx := rfl
@[simp] theorem State.putString_crc (bs : List Byte) : (s.putString bs).crc = s.crc := rfl
@[simp] theorem State.putString_st (bs : List Byte) : (s.putString bs).st = s.st := rfl
@[simp] theorem State.putString_errIdx (bs : List Byte) : (s.putString bs).errIdx = s.errIdx := rfl
@[simp] theorem State.putString_ioErr (bs : List Byte) : (s.putString bs).ioErr = s.ioErr := rfl
@[simp] theorem State.putString_txb (bs : List Byte) : (s.putString bs).txb = s.txb := rfl
@[simp] theorem State.putString_txlen (bs : List Byte) : (s.putString bs).txlen = s.txlen := rfl
@[simp] theorem State.putString_rxb (bs : List Byte) : (s.putString bs).rxb = s.rxb := rfl
@[simp] theorem State.putString_rxlen (bs : List Byte) : (s.putString bs).rxlen = s.rxlen := rfl
@[simp] theorem State.putString_rbool (bs : List Byte) : (s.putString bs).rbool = s.rbool := rfl
@[simp] theorem State.putString_ru32 (bs : List Byte) : (s.putString bs).ru32 = s.ru32 := rfl
@[simp] theorem State.putString_rstr (bs : List Byte) : (s.putString bs).rstr = bs := rfl
@[simp] theorem State.putString_rstrlen (bs : List Byte) : (s.putString bs).rstrlen = some bs.length := rfl
@[simp] theorem State.putString_rrec (bs : List Byte) : (s.putString bs).rrec = s.rrec := rfl
@[simp] theorem State.putString_ret (bs : List Byte) : (s.putString bs).ret = s.ret := rfl
@[simp] theorem State.putString_cur (bs : List Byte) : (s.putString bs).cur = s.cur := rfl
@[simp] theorem State.putString_cfg (bs : List Byte) : (s.putString bs).cfg = s.cfg := rfl
@[simp] theorem State.putString_requests (bs : List Byte) : (s.putString bs).requests = s.requests := rfl
@[simp] theorem State.putString_script (bs : List Byte) : (s.putString bs).script = s.script := rfl
@[simp] theorem State.putString_polls (bs : List Byte) : (s.putString bs).polls = s.polls := rfl
@[simp] theorem State.putString_trace (bs : List Byte) : (s.putString bs).trace = s.trace := rfl

/-! ### `putRecord` -/

@[simp] theorem State.putRecord_ls (r : MeasurementRecord) : (s.putRecord r).ls = s.ls := rfl
@[simp] theorem State.putRecord_w (r : MeasurementRecord) : (s.putRecord r).w = s.w := rfl
@[simp] theorem State.putRecord_nw (r : MeasurementRecord) : (s.putRecord r).nw = s.nw := rfl
@[simp] theorem State.putRecord_ph (r : MeasurementRecord) : (s.putRecord r).ph = .pack := rfl
@[simp] theorem State.putRecord_idx (r : MeasurementRecord) : (s.putRecord r).idx = s.idx := rfl
@[simp] theorem State.putRecord_crc (r : MeasurementRecord) : (s.putRecord r).crc = s.crc := rfl
@[simp] theorem State.putRecord_st (r : MeasurementRecord) : (s.putRecord r).st = s.st := rfl
@[simp] theorem State.putRecord_errIdx (r : MeasurementRecord) : (s.putRecord r).errIdx = s.errIdx := rfl
@[simp] theorem State.putRecord_ioErr (r : MeasurementRecord) : (s.putRecord r).ioErr = s.ioErr := rfl
@[simp] theorem State.putRecord_txb (r : MeasurementRecord) : (s.putRecord r).txb = s.txb := rfl
@[simp] theorem State.putRecord_txlen (r : MeasurementRecord) : (s.putRecord r).txlen = s.txlen := rfl
@[simp] theorem State.putRecord_rxb (r : MeasurementRecord) : (s.putRecord r).rxb = s.rxb := rfl
@[simp] theorem State.putRecord_rxlen (r : MeasurementRecord) : (s.putRecord r).rxlen = s.rxlen := rfl
@[simp] theorem State.putRecord_rbool (r : MeasurementRecord) : (s.putRecord r).rbool = s.rbool := rfl
@[simp] theorem State.putRecord_ru32 (r : MeasurementRecord) : (s.putRecord r).ru32 = s.ru32 := rfl
@[simp] theorem State.putRecord_rstr (r : MeasurementRecord) : (s.putRecord r).rstr = s.rstr := rfl
@[simp] theorem State.putRecord_rstrlen (r : MeasurementRecord) : (s.putRecord r).rstrlen = s.rstrlen := rfl
@[simp] theorem State.putRecord_rrec (r : MeasurementRecord) : (s.putRecord r).rrec = some r := rfl
@[simp] theorem State.putRecord_ret (r : MeasurementRecord) : (s.putRecord r).ret = s.ret := rfl
@[simp] theorem State.putRecord_cur (r : MeasurementRecord) : (s.putRecord r).cur = s.cur := rfl
@[simp] theorem State.putRecord_cfg (r : MeasurementRecord) : (s.putRecord r).cfg = s.cfg := rfl
@[simp] theorem State.putRecord_requests (r : MeasurementRecord) : (s.putRecord r).requests = s.requests := rfl
@[simp] theorem State.putRecord_script (r : MeasurementRecord) : (s.putRecord r).script = s.script := rfl
@[simp] theorem State.putRecord_polls (r : MeasurementRecord) : (s.putRecord r).polls = s.polls := rfl
@[simp] theorem State.putRecord_trace (r : MeasurementRecord) : (s.putRecord r).trace = s.trace := rfl

/-! ### Reading an element -/

@[simp] theorem valueOf_some {α : Type} (e : Element) (a : α) : valueOf e (some a) = .ok a := rfl
@[simp] theorem valueOf_none {α : Type} (e : Element) : valueOf e (none : Option α) = .error (.noValue e) := rfl
@[simp] theorem withValue_some {α : Type} (e : Element) (a : α) (k : α → Result) : withValue e (some a) k = k a := rfl
@[simp] theorem withValue_none {α : Type} (e : Element) (k : α → Result) :
    withValue e none k = .fault (.noValue e) := rfl

/-- A read that lets the operation go on found a value. -/
theorem withValue_next {α : Type} (e : Element) (v : Option α) (k : α → Result) (t : State)
    (h : withValue e v k = .next t) : ∃ a, v = some a ∧ k a = .next t := by
  cases v with
  | none => cases h
  | some a => exact ⟨a, rfl, h⟩

end Sys2Proof.Machine
end

