-- ==== Sys2Proof/Laws/Stages.lean ====
section
/-! SUPPORT. What each shared operation can do, said once: acceptance, one port call, the write stage, the read stage,
decode's loop. The proofs cite these instead of unfolding the operations. -/

namespace Sys2Proof.Machine

variable (s : State)

/-! ### Acceptance -/

theorem run_ready (i : Instr) (acc : State → Instr → State) (body : State → Result) (h : s.ph = .ready) :
    s.run i acc body = body (acc s i) := if_pos h

theorem hostOp_ready (i : Instr) (body : State → Result) (h : s.ph = .ready) :
    hostOp i body s = body (s.acceptHost i) := if_pos h

theorem unitOp_ready (i : Instr) (body : State → Result) (h : s.ph = .ready) :
    unitOp i body s = body (s.acceptUnit i) := if_pos h

/-- An operation that answers a next state accepted the request or went on with it. -/
theorem run_next (i : Instr) (acc : State → Instr → State) (body : State → Result) (t : State)
    (h : s.run i acc body = .next t) :
    (s.ph = .ready ∧ body (acc s i) = .next t) ∨ (s.ph ≠ .ready ∧ s.cur = some i ∧ body s = .next t) := by
  unfold State.run at h
  split at h
  · exact .inl ⟨‹_›, h⟩
  · split at h
    · exact .inr ⟨‹_›, ‹_›, h⟩
    · cases h

/-! ### One port call -/

/-- A port call holds, ends in the port's error, or goes on with its bytes. -/
theorem portCall_cases (c : PortCall) (onError : IoError → State → State) (onOk : List Byte → State → State) :
    (s.reply c = none ∧ portCall c onError onOk s = s.polled) ∨
    (∃ e, s.reply c = some (.ioError e) ∧
      portCall c onError onOk s = onError e (s.polled.record (.call c (.ioError e)))) ∨
    (∃ bs, s.reply c = some (.ok bs) ∧
      portCall c onError onOk s = onOk bs (s.polled.record (.call c (.ok bs)))) := by
  unfold portCall
  rcases h : s.reply c with _ | ⟨bs⟩ | ⟨e⟩
  · exact .inl ⟨rfl, rfl⟩
  · exact .inr (.inr ⟨bs, rfl, rfl⟩)
  · exact .inr (.inl ⟨e, rfl, rfl⟩)

/-- A property that a hold, an error and an answer all give holds of every port call. -/
theorem portCall_induct (P : State → Prop) (c : PortCall) (onError : IoError → State → State)
    (onOk : List Byte → State → State) (hold : s.reply c = none → P s.polled)
    (err : ∀ e, s.reply c = some (.ioError e) → P (onError e (s.polled.record (.call c (.ioError e)))))
    (ok : ∀ bs, s.reply c = some (.ok bs) → P (onOk bs (s.polled.record (.call c (.ok bs))))) :
    P (portCall c onError onOk s) := by
  rcases portCall_cases s c onError onOk with ⟨h, e⟩ | ⟨x, h, e⟩ | ⟨x, h, e⟩ <;> rw [e]
  · exact hold h
  · exact err x h
  · exact ok x h

theorem reply_script (c : PortCall) (a : Option PortAnswer) (rest : List (Option PortAnswer))
    (h : s.script = a :: rest) : s.reply c = a.map (conform c) := by
  unfold State.reply; rw [h]

/-- An `Ok` of a read carries exactly the bytes asked for (92_eei_decisions.md D36). -/
theorem reply_read_length (count : Nat) (bs : List Byte) (h : s.reply (.read count) = some (.ok bs)) :
    bs.length = count := by
  have key : ∀ o : Option PortAnswer, o.map (conform (.read count)) = some (.ok bs) → bs.length = count := by
    intro o ho
    rcases o with _ | ⟨cs⟩ | ⟨e⟩
    · simp at ho
    · simp only [Option.map_some, conform, Option.some.injEq] at ho
      split at ho
      · next hl => cases ho; exact hl
      · cases ho
    · simp [conform] at ho
  unfold State.reply at h
  split at h <;> exact key _ h

/-! ### The write stage and the read stage -/

/-- A command that is not yet outstanding is encoded, and exactly its frame is written. -/
theorem sendCommand_fresh (opcode : Word) (args : List Word) (onOk : State → State) (h : s.ph ≠ .write) :
    s.sendCommand opcode args onOk =
      .next ((s.encodeFrame opcode args).writeStage (frameOf opcode args) onOk) := by
  have : Memory.readBytes (cellsFrom 0 (frameOf opcode args)) 0 (2 + 3 * args.length) =
      some (frameOf opcode args) := by
    rw [← length_frameOf opcode args]; exact Memory.readBytes_buffer _
  simp [State.sendCommand, h, this]

/-- An outstanding write goes on with the bytes in `TXB`. -/
theorem sendCommand_resumed (opcode : Word) (args : List Word) (onOk : State → State) (bytes : List Byte)
    (h : s.ph = .write) (hb : Memory.readBytes s.txb 0 s.txlen = some bytes) :
    s.sendCommand opcode args onOk = .next (s.writeStage bytes onOk) := by
  simp [State.sendCommand, h, hb]

/-- An outstanding write faults when a byte of `TXB` below `TXLEN` holds no value (10_state.md rule R32). -/
theorem sendCommand_fault (opcode : Word) (args : List Word) (onOk : State → State)
    (h : s.ph = .write) (hb : Memory.readBytes s.txb 0 s.txlen = none) :
    s.sendCommand opcode args onOk = .fault (.noValue .txb) := by
  simp [State.sendCommand, h, hb]

theorem sendCommand_next (opcode : Word) (args : List Word) (onOk : State → State) (t : State)
    (h : s.sendCommand opcode args onOk = .next t) :
    (s.ph ≠ .write ∧ t = (s.encodeFrame opcode args).writeStage (frameOf opcode args) onOk) ∨
    (s.ph = .write ∧ ∃ bytes, Memory.readBytes s.txb 0 s.txlen = some bytes ∧ t = s.writeStage bytes onOk) := by
  by_cases hp : s.ph = .write
  · cases hb : Memory.readBytes s.txb 0 s.txlen with
    | some bytes =>
      rw [sendCommand_resumed s opcode args onOk bytes hp hb] at h
      cases h; exact .inr ⟨hp, bytes, rfl, rfl⟩
    | none => simp [State.sendCommand, hp, hb] at h
  · rw [sendCommand_fresh s opcode args onOk hp] at h
    cases h; exact .inl ⟨hp, rfl⟩

/-- A query that is not yet outstanding writes its bare opcode, waits, and reads. -/
theorem query_fresh (opcode : Word) (delay n : Nat) (onOk : State → State) (hr : s.ph ≠ .read) (hw : s.ph ≠ .write) :
    s.query opcode delay n onOk =
      .next ((s.encodeFrame opcode []).writeStage (frameOf opcode []) fun s => (s.settle delay).readStage n onOk) := by
  unfold State.query
  rw [if_neg hr, sendCommand_fresh _ _ _ _ hw]

theorem query_next (opcode : Word) (delay n : Nat) (onOk : State → State) (t : State)
    (h : s.query opcode delay n onOk = .next t) :
    (s.ph = .read ∧ t = s.readStage n onOk) ∨
    (s.ph ≠ .read ∧ s.sendCommand opcode [] (fun s => (s.settle delay).readStage n onOk) = .next t) := by
  unfold State.query at h
  split at h
  · cases h; exact .inl ⟨‹_›, rfl⟩
  · exact .inr ⟨‹_›, h⟩

/-! ### decode's loop -/

/-- Every triplet intact: all words are committed. -/
theorem decodeTriplets_ok (n : Nat) (ts : List Triplet) (onOk : State → State) (h : firstBad ts = none) :
    s.decodeTriplets n ts onOk =
      onOk { s with ph := .decode, idx := n, crc := crcAfterTriplets ts s.crc, w := ts.map Triplet.word, nw := n } := by
  unfold State.decodeTriplets; rw [h]

/-- A failing triplet: the least index is raised and no word is committed. -/
theorem decodeTriplets_bad (n : Nat) (ts : List Triplet) (onOk : State → State) (i : Nat) (h : firstBad ts = some i) :
    s.decodeTriplets n ts onOk =
      ({ s.clearWords with ph := .decode, idx := i, crc := crcAfterTriplets (ts.take (i + 1)) s.crc } : State).raise
        (.checksum i) := by
  unfold State.decodeTriplets; rw [h]

/-- decode's outcome does not depend on what stands behind the first failing triplet. -/
theorem decodeTriplets_examined (n : Nat) (ts : List Triplet) (onOk : State → State) :
    s.decodeTriplets n (examined ts) onOk = s.decodeTriplets n ts onOk := by
  cases h : firstBad ts with
  | none => rw [examined_of_intact ts h]
  | some i =>
    rw [decodeTriplets_bad s n ts onOk i h, decodeTriplets_bad s n _ onOk i (by simpa using h), examined_of_bad ts i h,
      List.take_take, Nat.min_self]

/-- The loop passes a triplet that verifies. -/
theorem readTriplets_good (m : Memory) (j n : Nat) (h l : Byte) (h0 : Memory.read m (3 * j) = some h)
    (h1 : Memory.read m (3 * j + 1) = some l) (h2 : Memory.read m (3 * j + 2) = some (checksum h l)) :
    Memory.readTriplets m j (n + 1) = (Memory.readTriplets m (j + 1) n).map (⟨h, l, checksum h l⟩ :: ·) := by
  simp [Memory.readTriplets, Memory.readBytes, h0, h1, h2, verify]

/-- The loop stops at a triplet that fails, whatever stands behind it. -/
theorem readTriplets_failing (m : Memory) (j n : Nat) (h l c : Byte) (h0 : Memory.read m (3 * j) = some h)
    (h1 : Memory.read m (3 * j + 1) = some l) (h2 : Memory.read m (3 * j + 2) = some c) (hc : checksum h l ≠ c) :
    Memory.readTriplets m j (n + 1) = some [⟨h, l, c⟩] := by
  simp [Memory.readTriplets, Memory.readBytes, h0, h1, h2, verify, hc]

/-- The loop reads no value from a triplet that is not whole. -/
theorem readTriplets_missing (m : Memory) (j n : Nat)
    (h : Memory.read m (3 * j) = none ∨ Memory.read m (3 * j + 1) = none ∨ Memory.read m (3 * j + 2) = none) :
    Memory.readTriplets m j (n + 1) = none := by
  have : Memory.readBytes m (3 * j) 3 = none := by
    simp only [Memory.readBytes, Nat.add_assoc]
    rcases h with h | h | h <;> rw [h] <;> (repeat' split) <;> simp_all
  simp [Memory.readTriplets, this]

/-- What the loop reads from triplet `j` on of a buffer that holds these bytes there: every triplet up to the first that
fails. -/
theorem readTriplets_of_reads (m : Memory) (j n : Nat) (bs : List Byte) (h : bs.length = 3 * n)
    (hm : ∀ k < bs.length, Memory.read m (3 * j + k) = bs[k]?) :
    Memory.readTriplets m j n = some (examined (tripletsOf bs)) := by
  induction n generalizing j bs with
  | zero => rw [List.length_eq_zero_iff.1 (by omega : bs.length = 0)]; rfl
  | succ n ih =>
    match bs, h with
    | a :: b :: c :: rest, h =>
      have h0 := hm 0 (by simp)
      have h1 := hm 1 (by simp)
      have h2 := hm 2 (by simp)
      simp only [List.length_cons] at h
      have hr := ih (j + 1) rest (by omega) fun k hk => by
        have := hm (k + 3) (by simp only [List.length_cons]; omega)
        rw [show 3 * (j + 1) + k = 3 * j + (k + 3) by omega, this]; rfl
      simp only [Nat.add_zero, List.getElem?_cons_zero, List.getElem?_cons_succ] at h0 h1 h2
      cases ht : verify a b c with
      | true =>
        obtain rfl : checksum a b = c := by simpa [verify] using ht
        rw [readTriplets_good m j n a b h0 h1 h2, hr]
        simp [tripletsOf, examined, Triplet.intact, ht]
      | false =>
        rw [readTriplets_failing m j n a b c h0 h1 h2 (by simpa [verify] using ht)]
        simp [tripletsOf, examined, Triplet.intact, ht]

/-- What the loop reads of a whole response: every triplet up to the first that fails. -/
theorem readTriplets_buffer (n : Nat) (bs : List Byte) (h : bs.length = 3 * n) :
    Memory.readTriplets (cellsFrom 0 bs) 0 n = some (examined (tripletsOf bs)) :=
  readTriplets_of_reads _ 0 n bs h fun k _ => by rw [Memory.read_buffer, Nat.mul_zero, Nat.zero_add]

/-- decode on a whole response, driven directly, is the loop over its triplets, as in the read stage. -/
theorem execDecode_buffer (n : Nat) (bs : List Byte) (h : s.ph = .ready) (hn : n ≤ s.cfg.maxW) (hl : s.rxlen = 3 * n)
    (hb : bs.length = 3 * n) (hx : s.rxb = cellsFrom 0 bs) :
    execDecode n s = .next ((s.acceptUnit (.decode n)).decodeTriplets n (tripletsOf bs) fun s => s.returnUnit .ok) := by
  unfold execDecode
  rw [unitOp_ready _ _ _ h]
  simp only [State.acceptUnit_cfg, hn, if_true, State.acceptUnit_rxlen, hl, State.acceptUnit_rxb, hx,
    readTriplets_buffer n bs hb, withValue_some, decodeTriplets_examined]

/-! ### A query and the conversion of its words -/

/-- The words that decode has committed, and no others, hold a value (10_state.md rule R22). -/
theorem readW_committed (i : Nat) (h : s.w.length = s.nw) : s.readW i = s.w[i]? := by
  unfold State.readW
  split
  · rfl
  · rw [List.getElem?_eq_none (by omega)]

/-- A read stage that is followed by a conversion of its `n` words, when the conversion of `n` committed words goes on
to a next state: the conversion is what the stage does when it ends well. -/
theorem readStage_pack (n : Nat) (pack : State → Result) (g : State → State)
    (hg : ∀ u : State, u.ph = .decode → u.nw = n → u.w.length = n → pack u = .next (g u)) :
    (if (s.readStage n fun s => s).ph = .decode then pack (s.readStage n fun s => s)
      else .next (s.readStage n fun s => s)) = .next (s.readStage n g) := by
  unfold State.readStage portCall
  rcases h : State.reply _ _ with _ | ⟨bs⟩ | ⟨e⟩
  · rfl
  · have hl := length_tripletsOf bs n (reply_read_length _ _ _ h)
    cases hb : firstBad (tripletsOf bs) with
    | some i => simp [decodeTriplets_bad _ _ _ _ _ hb]
    | none =>
      simp only [decodeTriplets_ok _ _ _ _ hb]
      exact hg _ rfl rfl (by simpa using hl)
  · simp [raiseTransport]

/-- A query whose words are converted, when the conversion of `n` committed words goes on to a next state: it is the
query with that conversion as what follows its decode. So no conversion of a query's words faults. -/
theorem queryThen_eq (opcode : Word) (delay n : Nat) (pack : State → Result) (g : State → State)
    (hg : ∀ u : State, u.ph = .decode → u.nw = n → u.w.length = n → pack u = .next (g u)) :
    s.queryThen opcode delay n pack = s.query opcode delay n g := by
  have hw : ∀ (u : State) (bytes : List Byte),
      (if (u.writeStage bytes fun s => (s.settle delay).readStage n fun s => s).ph = .decode
        then pack (u.writeStage bytes fun s => (s.settle delay).readStage n fun s => s)
        else .next (u.writeStage bytes fun s => (s.settle delay).readStage n fun s => s)) =
      .next (u.writeStage bytes fun s => (s.settle delay).readStage n g) := by
    intro u bytes
    unfold State.writeStage portCall
    rcases State.reply _ _ with _ | ⟨bs⟩ | ⟨e⟩
    · rfl
    · exact readStage_pack _ n pack g hg
    · simp [raiseTransport]
  unfold State.queryThen State.query
  by_cases h : s.ph = .read
  · simp only [if_pos h]
    exact readStage_pack s n pack g hg
  · simp only [if_neg h, State.sendCommand]
    cases Memory.readBytes _ 0 _ with
    | none => rfl
    | some bytes => exact hw _ bytes

/-- One word committed: its boolean. -/
theorem packBool_committed (h1 : s.nw = 1) (h2 : s.w.length = 1) :
    s.packBool = .next (s.putBool (boolOfWord s.cfg (s.w.headD 0))).returnOk := by
  match hw : s.w, h2 with
  | [a], _ => simp [State.packBool, State.readW, h1, hw]

/-- Two words committed: their 32 bits. -/
theorem packU32_committed (h1 : s.nw = 2) (h2 : s.w.length = 2) :
    s.packU32 = .next (s.putU32 (catWords (s.w.getD 0 0) (s.w.getD 1 0))).returnOk := by
  match hw : s.w, h2 with
  | [a, b], _ => simp [State.packU32, State.readW32, State.readW, h1, hw]

/-- `n` words committed: their string. -/
theorem packString_committed (n : Nat) (h1 : s.nw = n) (h2 : s.w.length = n) :
    s.packString n = .next (s.putString (beforeNul (bytesOfWords s.w))).returnOk := by
  subst h1
  simp [State.packString, State.stringWords, h2, List.take_of_length_le (Nat.le_of_eq h2)]

/-- Words `2k` and `2k+1` committed: the record's field `k` is their 32 bits. -/
theorem readW32_committed (i : Nat) (h : s.w.length = s.nw) (hi : i + 1 < s.nw) :
    s.readW32 i = some (catWords (s.w.getD i 0) (s.w.getD (i + 1) 0)) := by
  unfold State.readW32
  rw [readW_committed s i h, readW_committed s (i + 1) h, List.getElem?_eq_getElem (by omega),
    List.getElem?_eq_getElem (by omega)]
  simp [List.getD_eq_getElem?_getD, List.getElem?_eq_getElem (show i < s.w.length by omega),
    List.getElem?_eq_getElem (show i + 1 < s.w.length by omega)]

/-- The record of twenty words. -/
def recordOfWords (ws : List Word) : MeasurementRecord :=
  let f := fun i => catWords (ws.getD i 0) (ws.getD (i + 1) 0)
  { mc0 := f 0, mc1 := f 2, mc2 := f 4, mc3 := f 6, nc0 := f 8, nc1 := f 10, nc2 := f 12, nc3 := f 14, nc4 := f 16,
    tps := f 18 }

/-- Twenty words committed: their record. -/
theorem packRecord_committed (h1 : s.nw = 20) (h2 : s.w.length = 20) :
    s.packRecord = .next (s.putRecord (recordOfWords s.w)).returnOk := by
  have h := h2.trans h1.symm
  simp [State.packRecord, State.record20, recordOfWords, readW32_committed s _ h, h1]

/-! The reading host operations' queries, each with its conversion as what follows decode. -/

theorem query_packBool (opcode : Word) (delay : Nat) :
    s.queryThen opcode delay Config.boolWords State.packBool =
      s.query opcode delay 1 fun u => (u.putBool (boolOfWord u.cfg (u.w.headD 0))).returnOk :=
  queryThen_eq s opcode delay 1 _ _ fun u _ h1 h2 => packBool_committed u h1 h2

theorem query_packU32 (opcode : Word) (delay : Nat) :
    s.queryThen opcode delay Config.acWords State.packU32 =
      s.query opcode delay 2 fun u => (u.putU32 (catWords (u.w.getD 0 0) (u.w.getD 1 0))).returnOk :=
  queryThen_eq s opcode delay 2 _ _ fun u _ h1 h2 => packU32_committed u h1 h2

theorem query_packString (opcode : Word) (delay : Nat) :
    (s.queryThen opcode delay Config.strWords fun s => s.packString Config.strWords) =
      s.query opcode delay 16 fun u => (u.putString (beforeNul (bytesOfWords u.w))).returnOk :=
  queryThen_eq s opcode delay 16 _ _ fun u _ h1 h2 => packString_committed u 16 h1 h2

theorem query_packRecord (opcode : Word) (delay : Nat) :
    s.queryThen opcode delay Config.measWords State.packRecord =
      s.query opcode delay 20 fun u => (u.putRecord (recordOfWords u.w)).returnOk :=
  queryThen_eq s opcode delay 20 _ _ fun u _ h1 h2 => packRecord_committed u h1 h2

end Sys2Proof.Machine
end

