-- ==== Sys2Proof/Tests/Slice0.lean ====
section
/-! SUPPORT. Tests. Expected results are those of spec/95_test_vectors.md (named V-.. in the comments), of the worked
examples of the rules, or written out from the encodings of spec/30_encoding.md; and one witness per statement of
Certificates/Slice0/Obligations.lean that has hypotheses. -/

namespace Sys2Proof.Tests

open Sys2Proof.Machine

-- One test after another: side by side, each `decide +kernel` holds a thread while it waits for all checks before it.
set_option Elab.async false

/-- The core in a lifecycle state with a port script, in the configuration of the test vectors. -/
def coreAt (ls : Lifecycle) (script : List (Option PortAnswer)) : State :=
  { State.reset with cfg := Config.suggested, ls := ls, script := script }

/-- The core with a response buffer filled by the test bench (P6). -/
def coreWith (bytes : List Byte) : State :=
  { coreAt .idle [] with rxb := bufferOf bytes, rxlen := bytes.length }

/-- The port answers `Ok` with these bytes. -/
def ok (bytes : List Byte) : Option PortAnswer := some (.ok bytes)

/-- The port answers `IoError`. -/
def bad : Option PortAnswer := some (.ioError ⟨7⟩)

/-- The result is a next state with this property. -/
def ends (r : Result) (p : State → Bool) : Bool :=
  match r with
  | .next t => p t
  | .fault _ => false
  | .refused _ => false

/-- The request is refused for this reason. -/
def refuses (r : Result) (e : Refusal) : Bool :=
  match r with
  | .refused x => x == e
  | .next _ => false
  | .fault _ => false

/-- The request stops with this fault. -/
def faults (r : Result) (e : Fault) : Bool :=
  match r with
  | .fault x => x == e
  | .next _ => false
  | .refused _ => false

/-- The host reads this result. -/
def hostReads (r : Except Fault HostResult) (x : HostResult) : Bool :=
  match r with
  | .ok y => y == x
  | .error _ => false

/-! ### WellFormed refuses an ill-formed term for each of its checks -/

theorem test_wf_encode : (Instr.encode 0x1234 (List.replicate 21 0)).wellFormed Config.suggested = false := by decide
theorem test_wf_decode : (Instr.decode 21).wellFormed Config.suggested = false := by decide
theorem test_wf_write : (Instr.writeCommandWithArgs 0 (List.replicate 21 0)).wellFormed Config.suggested = false := by
  decide
theorem test_wf_read_delayed : (Instr.readDelayed 0 0 21).wellFormed Config.suggested = false := by decide
theorem test_wf_read_command : (Instr.readCommand 0 21).wellFormed Config.suggested = false := by decide
theorem test_wf_bus_start : (Instr.busStart 0x0100 0xAC).wellFormed Config.suggested = false := by decide +kernel
theorem test_wf_bus_set_first :
    (Instr.busSetAutoCleanInterval 0x0009 0x08 0x3A80 0xA7).wellFormed Config.suggested = false := by decide +kernel
theorem test_wf_bus_set_second :
    (Instr.busSetAutoCleanInterval 0x0009 0x09 0x3A80 0xA6).wellFormed Config.suggested = false := by decide +kernel
theorem test_wf_holds :
    (Instr.encode 0x1234 (List.replicate 20 0)).wellFormed Config.suggested = true ∧
    (Instr.readCommand 0 20).wellFormed Config.suggested = true ∧
    (Instr.busStart 0x0300 0xAC).wellFormed Config.suggested = true := by decide +kernel

/-! ### Decoding: every constructor's word, written out from 30_encoding.md rules R60, R67 and R68 -/

theorem test_decode_host :
    decode Config.suggested (.host 0b00000 0) = .ok .init ∧ decode Config.suggested (.host 0b00001 0) = .ok .reset ∧
    decode Config.suggested (.host 0b00010 0) = .ok .getSerialNumber ∧
    decode Config.suggested (.host 0b00011 0) = .ok .getProductNumber ∧
    decode Config.suggested (.host 0b00100 0) = .ok .start ∧ decode Config.suggested (.host 0b00101 0) = .ok .stop ∧
    decode Config.suggested (.host 0b00110 0) = .ok .isNewDataAvailable ∧
    decode Config.suggested (.host 0b00111 0) = .ok .getMeasurement ∧
    decode Config.suggested (.host 0b01000 0) = .ok .getAutoCleanInterval ∧
    decode Config.suggested (.host 0b01001 604800) = .ok (.setAutoCleanInterval 604800) := by decide

theorem test_decode_reserved :
    decode Config.suggested (.host 0b01010 0) = .ok (.reserved0A0B 0) ∧
    decode Config.suggested (.host 0b01110 0) = .ok (.reserved0C0F 2) ∧
    decode Config.suggested (.host 0b11111 0) = .ok (.reserved181F 7) ∧
    decode Config.suggested (.host 0b10010 0) = .error (.hostUnitOpid 0b10010) := by decide

theorem test_decode_unit :
    decode Config.suggested (.unitOp 0b10000 [0xBE, 0xEF]) = .ok (.generateChecksum 0xBE 0xEF) ∧
    decode Config.suggested (.unitOp 0b10001 [0xBE, 0xEF, 0x92]) = .ok (.verifyChecksum 0xBE 0xEF 0x92) ∧
    decode Config.suggested (.unitOp 0b10010 [0xABCD, 0xBEEF]) = .ok (.encode 0xABCD [0xBEEF]) ∧
    decode Config.suggested (.unitOp 0b10011 [3]) = .ok (.decode 3) ∧
    decode Config.suggested (.unitOp 0b10100 [0x0104]) = .ok (.writeCommand 0x0104) ∧
    decode Config.suggested (.unitOp 0b10101 [0x8004, 9]) = .ok (.writeCommandWithArgs 0x8004 [9]) ∧
    decode Config.suggested (.unitOp 0b10110 [0x0202, 500, 1]) = .ok (.readDelayed 0x0202 500 1) ∧
    decode Config.suggested (.unitOp 0b10111 [0x0202, 1]) = .ok (.readCommand 0x0202 1) := by decide

theorem test_decode_unit_rejects :
    decode Config.suggested (.unitOp 0b10000 [0xBE, 256]) = .error (.operandShape 0b10000) ∧
    decode Config.suggested (.unitOp 0b10100 [65536]) = .error (.operandShape 0b10100) ∧
    decode Config.suggested (.unitOp 0b00001 []) = .error (.unknownUnit 0b00001) := by decide

theorem test_decode_frames :
    decode Config.suggested (.frame [0xD3, 0x04]) = .ok .busReset ∧
    decode Config.suggested (.frame [0xD0, 0x33]) = .ok .busGetSerialNumber ∧
    decode Config.suggested (.frame [0xD0, 0x25]) = .ok .busGetProductNumber ∧
    decode Config.suggested (.frame [0x00, 0x10, 0x03, 0x00, 0xAC]) = .ok (.busStart 0x0300 0xAC) ∧
    decode Config.suggested (.frame [0x01, 0x04]) = .ok .busStop ∧
    decode Config.suggested (.frame [0x02, 0x02]) = .ok .busIsNewDataAvailable ∧
    decode Config.suggested (.frame [0x03, 0x00]) = .ok .busGetMeasurement ∧
    decode Config.suggested (.frame [0x80, 0x04]) = .ok .busGetAutoCleanInterval ∧
    decode Config.suggested (.frame [0x80, 0x04, 0x00, 0x09, 0x09, 0x3A, 0x80, 0xA7]) =
      .ok (.busSetAutoCleanInterval 0x0009 0x09 0x3A80 0xA7) := by decide

theorem test_decode_frames_rejects :
    decode Config.suggested (.frame [0xD3]) = .error (.frameLength 1) ∧
    decode Config.suggested (.frame [0x00, 0x10]) = .error (.unknownOpcode 0x0010) ∧
    decode Config.suggested (.frame [0xD3, 0x04, 0x03, 0x00, 0xAC]) = .error (.unknownOpcode 0xD304) := by decide

/-- The table's own numbers: the first byte of a bus frame is the most significant (rule R60). -/
theorem test_decode_table_words :
    decodeTableWord 5 0x04 = some .start ∧ decodeTableWord 5 0x13 = some (.decode 0) ∧
    decodeTableWord 16 0xD304 = some .busReset ∧ decodeTableWord 40 0x00100300AC = some (.busStart 0x0300 0xAC) ∧
    decodeTableWord 64 0x80040009093A80A7 = some (.busSetAutoCleanInterval 0x0009 0x09 0x3A80 0xA7) := by decide

/-- A placed word is what the very next step runs (log 1). -/
theorem test_step_runs_placed_word :
    ends (step (State.reset.withFetchWord 5 0x10)) (fun t => t.crc == some 0x81 && t.requests == []) = true := by
  decide +kernel

/-! ### Checksum Engine (V-C1, V-C3) -/

theorem test_generate_checksum_beef :
    ends (exec (.generateChecksum 0xBE 0xEF) (coreAt .idle [])) (fun t => t.crc == some 0x92) = true := by
  decide +kernel
theorem test_generate_checksum_byte_order :
    ends (exec (.generateChecksum 0x00 0xFF) (coreAt .idle [])) (fun t => t.ret == some (.byte 0x2D)) = true := by
  decide +kernel
theorem test_verify_checksum_accepts :
    ends (exec (.verifyChecksum 0xFF 0x00 0x00) (coreAt .idle [])) (fun t => t.ret == some (.bit true)) = true := by
  decide +kernel
theorem test_verify_checksum_zero_triplet :
    ends (exec (.verifyChecksum 0x00 0x00 0x00) (coreAt .idle []))
      (fun t => t.ret == some (.bit false) && t.crc == some 0x81 && t.st == .ok) = true := by decide +kernel

/-! ### Frame Codec (V-F5, V-F7, P6) -/

theorem test_encode_three_words :
    ends (exec (.encode 0xABCD [0xBEEF, 0x0000, 0xFFFF]) (coreAt .idle []))
      (fun t => t.txb == bufferOf [0xAB, 0xCD, 0xBE, 0xEF, 0x92, 0x00, 0x00, 0x81, 0xFF, 0xFF, 0xAC] &&
        t.ret == some (.length 11)) = true := by decide +kernel
/-- V-F1; the longer frame of before is gone (rule R90, corner cases). -/
theorem test_encode_no_words :
    ends (exec (.encode 0x0104 []) (coreAt .idle []).returnOk)
      (fun t => t.txb == bufferOf [0x01, 0x04] && t.txlen == 2 && t.crc == none) = true := by decide
theorem test_decode_two_words :
    ends (exec (.decode 2) (coreWith [0x00, 0x09, 0x09, 0x3A, 0x80, 0xA7]))
      (fun t => t.w == [0x0009, 0x3A80] && t.nw == 2 && t.ret == some .ok) = true := by decide +kernel
theorem test_decode_least_failing_index :
    ends (exec (.decode 2) (coreWith [0x00, 0x09, 0x08, 0x3A, 0x80, 0xA6]))
      (fun t => t.st == .checksumError && t.errIdx == some 0 && t.nw == 0 && t.w == []) = true := by decide +kernel

/-! ### Command Executor (V-X1 to V-X7) -/

theorem test_write_command :
    ends (exec (.writeCommand 0x0104) (coreAt .idle [ok []]))
      (fun t => t.trace == [.call (.write [0x01, 0x04]) (.ok [])] && t.ret == some .ok) = true := by decide
theorem test_write_command_fails :
    ends (exec (.writeCommand 0x0104) (coreAt .idle [bad])) (fun t => t.st == .transportError && t.ioErr == some ⟨7⟩) =
      true := by decide
theorem test_write_command_with_args :
    ends (exec (.writeCommandWithArgs 0x8004 [0x0009, 0x3A80]) (coreAt .measuring [ok []]))
      (fun t => t.trace == [.call (.write [0x80, 0x04, 0x00, 0x09, 0x09, 0x3A, 0x80, 0xA7]) (.ok [])]) = true := by
  decide +kernel
theorem test_read_delayed :
    ends (exec (.readDelayed 0x0202 500 1) (coreAt .uninitialized [ok [], ok [0x00, 0x01, 0xB0]]))
      (fun t => t.trace == [.call (.write [0x02, 0x02]) (.ok []), .delay 500, .call (.read 3) (.ok [0x00, 0x01, 0xB0])] &&
        t.w == [0x0001] && t.nw == 1) = true := by decide +kernel
/-- V-X6. -/
theorem test_read_delayed_read_fails :
    ends (exec (.readDelayed 0x0202 500 1) (coreAt .idle [ok [], bad]))
      (fun t => t.trace.length == 3 && t.st == .transportError && t.nw == 0 && t.rxb == []) = true := by decide
theorem test_read_command :
    ends (exec (.readCommand 0x0202 1) (coreAt .idle [ok [], ok [0x00, 0x01, 0xB0]]))
      (fun t => t.trace == [.call (.write [0x02, 0x02]) (.ok []), .call (.read 3) (.ok [0x00, 0x01, 0xB0])] &&
        t.w == [0x0001]) = true := by decide +kernel
/-- V-X7. -/
theorem test_read_command_checksum_fails :
    ends (exec (.readCommand 0x8004 2) (coreAt .idle [ok [], ok [0x00, 0x09, 0x09, 0x3A, 0x80, 0xA6]]))
      (fun t => t.st == .checksumError && t.errIdx == some 1) = true := by decide +kernel

/-! ### Sensor Lifecycle (V-L1 to V-L14) -/

theorem test_init :
    ends (exec .init (coreAt .uninitialized [ok [], ok []]))
      (fun t => t.trace == [.call (.openPath ⟨0⟩) (.ok []), .call (.setAddress 0x69) (.ok [])] && t.ls == .idle &&
        t.st == .ok) = true := by decide
/-- V-L3. -/
theorem test_init_address_fails :
    ends (exec .init (coreAt .uninitialized [ok [], bad]))
      (fun t => t.ls == .uninitialized && t.st == .transportError && t.trace.length == 2) = true := by decide
/-- V-L4. -/
theorem test_reset_keeps_measuring :
    ends (exec .reset (coreAt .measuring [ok []]))
      (fun t => t.trace == [.call (.write [0xD3, 0x04]) (.ok [])] && t.ls == .measuring && t.st == .ok) = true := by
  decide
theorem test_reset_uninitialized :
    ends (exec .reset (coreAt .uninitialized [bad])) (fun t => t.st == .transportError && t.trace.length == 1) = true := by
  decide
/-- V-L5. -/
theorem test_get_serial_number :
    ends (exec .getSerialNumber (coreAt .idle [ok [], ok ([0x30, 0x30, 0xF6, 0x30, 0x38, 0x4F, 0x30, 0x30, 0xF6, 0x30,
        0x30, 0xF6, 0x41, 0x42, 0xA3, 0x43, 0x44, 0xDC, 0x31, 0x32, 0x60, 0x33, 0x34, 0x1F] ++
        (List.replicate 8 [0x00, 0x00, 0x81]).flatten)]))
      (fun t => t.rstrlen == some 16 && t.rstr == [0x30, 0x30, 0x30, 0x38, 0x30, 0x30, 0x30, 0x30, 0x41, 0x42, 0x43, 0x44,
        0x31, 0x32, 0x33, 0x34] && t.ls == .idle) = true := by decide +kernel
/-- V-L6 (b): no terminator. -/
theorem test_get_serial_number_unterminated :
    ends (exec .getSerialNumber (coreAt .measuring [ok [], ok (List.replicate 16 [0x41, 0x41, 0xF0]).flatten]))
      (fun t => t.rstrlen == some 32 && t.st == .ok) = true := by decide +kernel
/-- V-L6 (a). -/
theorem test_get_product_number :
    ends (exec .getProductNumber (coreAt .idle [ok [], ok ([0x53, 0x50, 0x35, 0x53, 0x33, 0xDD, 0x30, 0x00, 0x33] ++
        (List.replicate 13 [0x00, 0x00, 0x81]).flatten)]))
      (fun t => t.rstr == [0x53, 0x50, 0x53, 0x33, 0x30] && t.rstrlen == some 5) = true := by decide +kernel
/-- V-L6 (e): a checksum error after the terminator. -/
theorem test_get_product_number_late_error :
    ends (exec .getProductNumber (coreAt .idle [ok [], ok ([0x53, 0x50, 0x35, 0x53, 0x33, 0xDD, 0x30, 0x00, 0x33] ++
        (List.replicate 12 [0x00, 0x00, 0x81]).flatten ++ [0x00, 0x00, 0x80])]))
      (fun t => t.st == .checksumError && t.errIdx == some 15 && t.rstrlen == none) = true := by decide +kernel
theorem test_start :
    ends (exec .start (coreAt .idle [ok []]))
      (fun t => t.trace == [.call (.write [0x00, 0x10, 0x03, 0x00, 0xAC]) (.ok [])] && t.ls == .measuring) = true := by
  decide +kernel
theorem test_start_again :
    ends (exec .start (coreAt .measuring [bad])) (fun t => t.trace == [] && t.st == .ok && t.ls == .measuring) = true := by
  decide
/-- V-L13. -/
theorem test_stop_fails :
    ends (exec .stop (coreAt .measuring [bad])) (fun t => t.st == .transportError && t.ls == .measuring) = true := by
  decide
theorem test_stop :
    ends (exec .stop (coreAt .measuring [ok []]))
      (fun t => t.trace == [.call (.write [0x01, 0x04]) (.ok [])] && t.ls == .idle) = true := by decide
/-- V-L9: not bit 0 alone. -/
theorem test_is_new_data_available :
    ends (exec .isNewDataAvailable (coreAt .measuring [ok [], ok [0x01, 0x00, 0x75]])) (fun t => t.rbool == some true) =
      true := by decide +kernel
theorem test_is_new_data_available_false :
    ends (exec .isNewDataAvailable (coreAt .measuring [ok [], ok [0x00, 0x00, 0x81]])) (fun t => t.rbool == some false) =
      true := by decide +kernel
/-- V-L8. -/
theorem test_get_measurement :
    ends (exec .getMeasurement (coreAt .measuring [ok [], ok ([0x7F, 0xC0, 0x64, 0x00, 0x00, 0x81] ++
        [0xFF, 0xFF, 0xAC, 0xFF, 0xFF, 0xAC] ++ [0x00, 0x00, 0x81, 0x00, 0x01, 0xB0] ++
        [0x80, 0x00, 0xA2, 0x00, 0x00, 0x81] ++ [0x7F, 0x80, 0x59, 0x00, 0x00, 0x81] ++
        [0xFF, 0x80, 0x7A, 0x00, 0x00, 0x81] ++ [0x00, 0x00, 0x81, 0x00, 0x00, 0x81] ++
        [0x3F, 0x80, 0xD0, 0x00, 0x00, 0x81] ++ [0xBF, 0x80, 0xF3, 0x00, 0x00, 0x81] ++
        [0x12, 0x34, 0x37, 0x56, 0x78, 0x7D])]))
      (fun t => t.rrec.map MeasurementRecord.fields == some [0x7FC00000, 0xFFFFFFFF, 0x00000001, 0x80000000, 0x7F800000,
        0xFF800000, 0x00000000, 0x3F800000, 0xBF800000, 0x12345678]) = true := by decide +kernel
/-- V-E2: the guard comes first. -/
theorem test_get_measurement_idle :
    ends (exec .getMeasurement (coreAt .idle [bad])) (fun t => t.st == .stateError && t.trace == []) = true := by
  decide
/-- V-L10: word 0 is the high half. -/
theorem test_get_auto_clean_interval :
    ends (exec .getAutoCleanInterval (coreAt .idle [ok [], ok [0x00, 0x01, 0xB0, 0x00, 0x00, 0x81]]))
      (fun t => t.ru32 == some 65536) = true := by decide +kernel
/-- V-L10. -/
theorem test_get_auto_clean_interval_fails :
    ends (exec .getAutoCleanInterval (coreAt .measuring [ok [], ok [0x00, 0x09, 0x09, 0x3A, 0x80, 0xA6]]))
      (fun t => t.st == .checksumError && t.errIdx == some 1 && t.ru32 == none) = true := by decide +kernel
/-- V-L11. -/
theorem test_set_auto_clean_interval :
    ends (exec (.setAutoCleanInterval 604800) (coreAt .idle [ok []]))
      (fun t => t.trace == [.call (.write [0x80, 0x04, 0x00, 0x09, 0x09, 0x3A, 0x80, 0xA7]) (.ok [])]) = true := by
  decide +kernel
theorem test_set_auto_clean_interval_uninitialized :
    ends (exec (.setAutoCleanInterval 0) (coreAt .uninitialized [])) (fun t => t.st == .stateError && t.trace == []) =
      true := by decide
/-- Rule R106: held in `Write` while there is no answer, then resumed. -/
theorem test_held_then_resumed :
    ends (exec .stop (coreAt .measuring [none, ok []]))
      (fun t => t.ph == .write && t.cur == some .stop && t.trace == [] &&
        ends (exec .stop t) (fun u => u.ls == .idle && u.ph == .ready)) = true := by decide

/-- Rule R32: a query whose words were gone before it converts them would fault, and so would one whose frame was. -/
theorem test_missing_words_fault :
    faults ({ coreAt .measuring [] with ph := .decode, nw := 1, w := [] } : State).packBool (.noValue .w) = true ∧
    faults (({ coreAt .idle [] with ph := .decode, nw := 15, w := List.replicate 16 0 } : State).packString 16)
      (.noValue .w) = true := by decide
theorem test_missing_frame_faults :
    faults (exec .stop { coreAt .measuring [ok []] with ph := .write, cur := some .stop, txlen := 2 }) (.noValue .txb) =
      true := by decide

/-! ### Reserved requests and bus frames -/

theorem test_reserved :
    refuses (exec (.reserved0A0B 1) (coreAt .idle [])) (.reservedOpid 0x0B) = true ∧
    refuses (exec (.reserved0C0F 3) (coreAt .idle [])) (.reservedOpid 0x0F) = true ∧
    refuses (exec (.reserved181F 0) (coreAt .idle [])) (.reservedOpid 0x18) = true := by decide
theorem test_bus_commands :
    ends (exec .busReset (coreAt .uninitialized [ok []]))
      (fun t => t.trace == [.call (.write [0xD3, 0x04]) (.ok [])]) = true ∧
    ends (exec .busStop (coreAt .idle [ok []]))
      (fun t => t.trace == [.call (.write [0x01, 0x04]) (.ok [])] && t.ls == .idle) = true ∧
    ends (exec (.busStart 0x0300 0xAC) (coreAt .idle [ok []]))
      (fun t => t.trace == [.call (.write [0x00, 0x10, 0x03, 0x00, 0xAC]) (.ok [])] && t.ls == .idle) = true ∧
    ends (exec (.busSetAutoCleanInterval 0x0009 0x09 0x3A80 0xA7) (coreAt .idle [ok []]))
      (fun t => t.trace == [.call (.write [0x80, 0x04, 0x00, 0x09, 0x09, 0x3A, 0x80, 0xA7]) (.ok [])]) = true := by
  decide +kernel
theorem test_bus_queries :
    ends (exec .busIsNewDataAvailable (coreAt .idle [ok [], ok [0x00, 0x01, 0xB0]])) (fun t => t.w == [0x0001]) = true ∧
    ends (exec .busGetAutoCleanInterval (coreAt .idle [ok [], ok [0x00, 0x09, 0x09, 0x3A, 0x80, 0xA7]]))
      (fun t => t.w == [0x0009, 0x3A80] && t.ru32 == none) = true ∧
    ends (exec .busGetMeasurement (coreAt .idle [ok [], bad]))
      (fun t => t.trace == [.call (.write [0x03, 0x00]) (.ok []), .delay 10000, .call (.read 60) (.ioError ⟨7⟩)]) =
      true ∧
    ends (exec .busGetSerialNumber (coreAt .idle [ok [], bad]))
      (fun t => t.trace == [.call (.write [0xD0, 0x33]) (.ok []), .call (.read 48) (.ioError ⟨7⟩)]) = true ∧
    ends (exec .busGetProductNumber (coreAt .idle [ok [], bad]))
      (fun t => t.trace == [.call (.write [0xD0, 0x25]) (.ok []), .call (.read 48) (.ioError ⟨7⟩)]) = true := by
  decide +kernel
theorem test_bus_start_bad_checksum :
    refuses (exec (.busStart 0x0100 0xAC) (coreAt .idle [ok []])) .badFrame = true := by decide +kernel

/-! ### Witnesses: for each statement with hypotheses, states and operands that meet them, clause by clause -/

/-- A response of twenty words of zeros. -/
def zeros (n : Nat) : List Byte := (List.replicate n [0x00, 0x00, 0x81]).flatten

theorem witness_GenerateChecksumLeavesItInCrc : State.reset.ph = .ready := rfl

theorem witness_VerifyChecksumComparesWithGenerated : State.reset.ph = .ready := rfl

theorem witness_ChecksumDetectsUpToThreeFlippedBits :
    verify 0x12 0x34 0x37 = true ∧
    (1 ≤ bitCount 0x00 + bitCount 0x01 + bitCount 0x00 ∧ bitCount 0x00 + bitCount 0x01 + bitCount 0x00 ≤ 3) ∧
    (1 ≤ bitCount 0x80 + bitCount 0x01 + bitCount 0x20 ∧ bitCount 0x80 + bitCount 0x01 + bitCount 0x20 ≤ 3) := by
  decide +kernel

theorem witness_EncodeLaysOutTheFrame :
    (coreAt .idle []).ph = .ready ∧ ([] : List Word).length ≤ (coreAt .idle []).cfg.maxW ∧
    (List.replicate 20 (0x1FFF : Word)).length ≤ (coreAt .idle []).cfg.maxW ∧
    (List.replicate 20 (0x1FFF : Word))[19]? = some 0x1FFF ∧
    (coreAt .idle []).cfg.maxW < (List.replicate 21 (0x1FFF : Word)).length := by decide

theorem witness_CodecRefusesViolatedPreconditions :
    (coreAt .idle []).ph = .ready ∧ (coreAt .idle []).cfg.maxW < (List.replicate 21 (0 : Word)).length ∧
    (coreAt .idle []).cfg.maxW < 21 ∧
    ((coreWith [0x00, 0x01, 0xB0, 0x00]).ph = .ready ∧ 1 ≤ (coreWith [0x00, 0x01, 0xB0, 0x00]).cfg.maxW ∧
      (coreWith [0x00, 0x01, 0xB0, 0x00]).rxlen ≠ 3 * 1) ∧
    (20 ≤ (coreWith [0x00, 0x01, 0xB0]).cfg.maxW ∧ (coreWith [0x00, 0x01, 0xB0]).rxlen ≠ 3 * 20) := by decide

theorem witness_DecodeCommitsAllWords :
    ((coreWith []).ph = .ready ∧ 0 ≤ (coreWith []).cfg.maxW ∧ (coreWith []).rxlen = 3 * 0 ∧
      (coreWith []).rxb = bufferOf [] ∧ ∀ j < 0, goodTriplet [] j) ∧
    ((coreWith (zeros 20)).ph = .ready ∧ 20 ≤ (coreWith (zeros 20)).cfg.maxW ∧ (coreWith (zeros 20)).rxlen = 3 * 20 ∧
      (zeros 20).length = 3 * 20 ∧ (coreWith (zeros 20)).rxb = bufferOf (zeros 20) ∧
      ∀ j < 20, goodTriplet (zeros 20) j) := by decide +kernel

/-- The failing triplet is the last of two, and the first of two that both fail. -/
theorem witness_DecodeRaisesLeastFailingIndex :
    (coreWith [0x00, 0x09, 0x09, 0x3A, 0x80, 0xA6]).ph = .ready ∧
    2 ≤ (coreWith [0x00, 0x09, 0x09, 0x3A, 0x80, 0xA6]).cfg.maxW ∧
    (coreWith [0x00, 0x09, 0x09, 0x3A, 0x80, 0xA6]).rxlen = 3 * 2 ∧
    (coreWith [0x00, 0x09, 0x09, 0x3A, 0x80, 0xA6]).rxb = bufferOf [0x00, 0x09, 0x09, 0x3A, 0x80, 0xA6] ∧
    leastBad [0x00, 0x09, 0x09, 0x3A, 0x80, 0xA6] 2 1 ∧ leastBad [0x00, 0x09, 0x08, 0x3A, 0x80, 0xA6] 2 0 := by
  decide +kernel

/-- Two words are expected, the first triplet fails, and nothing stands behind it. -/
def cutShort : State := { coreWith [0x00, 0x09, 0x08] with rxlen := 6 }

/-- Two words are expected, the first triplet verifies, and nothing stands behind it. -/
def cutShortGood : State := { coreWith [0x00, 0x09, 0x09] with rxlen := 6 }

theorem witness_DecodeExaminesNothingBehindAFailure :
    cutShort.ph = .ready ∧ 2 ≤ cutShort.cfg.maxW ∧ cutShort.rxlen = 3 * 2 ∧
    Memory.read cutShort.rxb 0 = some 0x00 ∧ Memory.read cutShort.rxb 1 = some 0x09 ∧
    Memory.read cutShort.rxb 2 = some 0x08 ∧ checksum 0x00 0x09 ≠ 0x08 ∧ Memory.read cutShort.rxb 3 = none ∧
    ends (exec (.decode 2) cutShort) (fun t => t.st == .checksumError && t.errIdx == some 0) = true := by decide +kernel

/-- V-S4: the frame of `encode(0xABCD, [0xBEEF, 0x0000, 0xFFFF])` without its first two bytes. -/
theorem witness_DecodeReadsBackEncodedWords :
    (coreAt .idle []).ph = .ready ∧ [0xBEEF, 0x0000, (0xFFFF : Word)].length ≤ (coreAt .idle []).cfg.maxW ∧
    (coreWith [0xBE, 0xEF, 0x92, 0x00, 0x00, 0x81, 0xFF, 0xFF, 0xAC]).ph = .ready ∧
    (coreWith [0xBE, 0xEF, 0x92, 0x00, 0x00, 0x81, 0xFF, 0xFF, 0xAC]).cfg = (coreAt .idle []).cfg ∧
    (coreWith [0xBE, 0xEF, 0x92, 0x00, 0x00, 0x81, 0xFF, 0xFF, 0xAC]).rxlen = 3 * 3 ∧
    ends (exec (.encode 0xABCD [0xBEEF, 0x0000, 0xFFFF]) (coreAt .idle [])) (fun t =>
      (List.range 9).all fun j => Memory.read t.txb (2 + j) ==
        [0xBE, 0xEF, 0x92, 0x00, 0x00, 0x81, 0xFF, 0xFF, (0xAC : Byte)][j]?) = true := by decide +kernel

/-- V-S6: the middle triplet, one bit flipped, and three bits flipped. -/
theorem witness_DecodeReportsACorruptedTriplet :
    (coreWith [0xBE, 0xEF, 0x92, 0x00, 0x00, 0x80, 0xFF, 0xFF, 0xAC]).ph = .ready ∧
    [(0xBEEF : Word)].length + 1 + [(0xFFFF : Word)].length ≤
      (coreWith [0xBE, 0xEF, 0x92, 0x00, 0x00, 0x80, 0xFF, 0xFF, 0xAC]).cfg.maxW ∧
    (coreWith [0xBE, 0xEF, 0x92, 0x00, 0x00, 0x80, 0xFF, 0xFF, 0xAC]).rxlen = 3 * (1 + 1 + 1) ∧
    (coreWith [0xBE, 0xEF, 0x92, 0x00, 0x00, 0x80, 0xFF, 0xFF, 0xAC]).rxb = bufferOf (responseOf [0xBEEF] ++
      [hiByte 0 ^^^ 0x00, loByte 0 ^^^ 0x00, checksum (hiByte 0) (loByte 0) ^^^ 0x01] ++ responseOf [0xFFFF]) ∧
    bitCount 0x00 + bitCount 0x00 + bitCount 0x01 = 1 ∧ bitCount 0x01 + bitCount 0x80 + bitCount 0x10 = 3 ∧
    (0xFF : Byte) ≠ 0 ∧ bitCount 0xFF = 8 := by
  decide +kernel

theorem witness_WriteCommandsSendTheirFrame :
    (coreAt .uninitialized [ok []]).ph = .ready ∧ (coreAt .uninitialized [ok []]).script = some (.ok []) :: [] ∧
    (List.replicate 20 (0 : Word)).length ≤ (coreAt .uninitialized [ok []]).cfg.maxW ∧
    ([] : List Word).length ≤ (coreAt .uninitialized [ok []]).cfg.maxW := by decide

theorem witness_ReadCommandsFetchTheirWords :
    (coreAt .idle [ok [], ok (responseOf [])]).ph = .ready ∧
    ([] : List Word).length ≤ (coreAt .idle [ok [], ok (responseOf [])]).cfg.maxW ∧
    (coreAt .idle [ok [], ok (responseOf [])]).script = some (.ok []) :: some (.ok (responseOf [])) :: [] ∧
    (List.replicate 20 (0 : Word)).length ≤ (coreAt .idle [ok [], ok (zeros 20)]).cfg.maxW ∧
    (coreAt .idle [ok [], ok (zeros 20)]).script =
      some (.ok []) :: some (.ok (responseOf (List.replicate 20 0))) :: [] := by decide +kernel

theorem witness_ReadCommandIsReadDelayedWithNoDelay :
    (coreAt .idle [ok [], ok [0x00, 0x01, 0xB0]]).ph = .ready ∧
    ends (exec (.readCommand 0x0202 1) (coreAt .idle [ok [], ok [0x00, 0x01, 0xB0]])) (fun _ => true) = true ∧
    (coreAt .idle [ok [], ok [0x00, 0x09, 0x09, 0x3A, 0x80, 0xA7]]).ph = .ready ∧
    (coreAt .idle [ok [], ok [0x00, 0x09, 0x09, 0x3A, 0x80, 0xA7]]).script =
      some (.ok []) :: some (.ok [0x00, 0x09, 0x09, 0x3A, 0x80, 0xA7]) :: [] := by decide

theorem witness_FailedWriteEndsTheOperation :
    (coreAt .measuring [bad]).ph = .ready ∧ (coreAt .measuring [bad]).script = some (.ioError ⟨7⟩) :: [] ∧
    (Instr.stop.wellFormed (coreAt .measuring [bad]).cfg = true ∧ guardCell .stop (coreAt .measuring [bad]).ls = .run ∧
      exchangeOf (coreAt .measuring [bad]).cfg .stop = .command 0x0104 []) ∧
    (Instr.getMeasurement.wellFormed (coreAt .measuring [bad]).cfg = true ∧
      guardCell .getMeasurement (coreAt .measuring [bad]).ls = .run ∧
      exchangeOf (coreAt .measuring [bad]).cfg .getMeasurement = .query 0x0300 10000 20) := by decide

theorem witness_FailedReadEndsTheOperation :
    (coreAt .idle [ok [], bad]).ph = .ready ∧
    Instr.getAutoCleanInterval.wellFormed (coreAt .idle [ok [], bad]).cfg = true ∧
    guardCell .getAutoCleanInterval (coreAt .idle [ok [], bad]).ls = .run ∧
    exchangeOf (coreAt .idle [ok [], bad]).cfg .getAutoCleanInterval = .query 0x8004 0 2 ∧
    (coreAt .idle [ok [], bad]).script = some (.ok []) :: some (.ioError ⟨7⟩) :: [] := by decide

theorem witness_CorruptedResponseEndsTheOperation :
    (coreAt .idle [ok [], ok [0x00, 0x09, 0x09, 0x3A, 0x80, 0xA6]]).ph = .ready ∧
    Instr.getAutoCleanInterval.wellFormed (coreAt .idle []).cfg = true ∧
    guardCell .getAutoCleanInterval (coreAt .idle []).ls = .run ∧
    exchangeOf (coreAt .idle []).cfg .getAutoCleanInterval = .query 0x8004 0 2 ∧
    [(0x00 : Byte), 0x09, 0x09, 0x3A, 0x80, 0xA6].length = 3 * 2 ∧
    leastBad [0x00, 0x09, 0x09, 0x3A, 0x80, 0xA6] 2 1 ∧
    (coreAt .idle [ok [], ok [0x00, 0x09, 0x09, 0x3A, 0x80, 0xA6]]).script =
      some (.ok []) :: some (.ok [0x00, 0x09, 0x09, 0x3A, 0x80, 0xA6]) :: [] := by decide +kernel

/-- One byte short, and one too many. -/
theorem witness_WrongLengthReadIsTransportError :
    (coreAt .measuring [ok [], ok [0x00, 0x01]]).ph = .ready ∧
    Instr.isNewDataAvailable.wellFormed (coreAt .measuring []).cfg = true ∧
    guardCell .isNewDataAvailable (coreAt .measuring []).ls = .run ∧
    exchangeOf (coreAt .measuring []).cfg .isNewDataAvailable = .query 0x0202 0 1 ∧
    [(0x00 : Byte), 0x01].length ≠ 3 * 1 ∧ [(0x00 : Byte), 0x01, 0xB0, 0x00].length ≠ 3 * 1 ∧
    (coreAt .measuring [ok [], ok [0x00, 0x01]]).script = some (.ok []) :: some (.ok [0x00, 0x01]) :: [] := by decide

/-- An executor operation that ends `Ok`, one that ends in the port's error, one that ends in a checksum error. -/
theorem witness_ExecutorMapsStatusesAndIgnoresLifecycle :
    (Instr.readCommand 0x0202 1).isHostOp = false ∧ exchangeOf Config.suggested (.readCommand 0x0202 1) ≠ .none ∧
    ends (exec (.readCommand 0x0202 1) (coreAt .idle [ok [], ok [0x00, 0x01, 0xB0]])) (fun t => t.ph == .ready &&
      t.ret == some .ok) = true ∧
    ends (exec (.readCommand 0x0202 1) (coreAt .idle [ok [], bad])) (fun t => t.ph == .ready &&
      t.st == .transportError) = true ∧
    ends (exec (.readCommand 0x0202 1) (coreAt .idle [ok [], ok [0x00, 0x01, 0xB1]])) (fun t => t.ph == .ready &&
      t.st == .checksumError) = true := by decide +kernel

theorem witness_InitOpensAndAddressesThePort :
    (coreAt .uninitialized [ok [], ok []]).ph = .ready ∧ (coreAt .uninitialized [ok [], ok []]).ls = .uninitialized ∧
    (coreAt .uninitialized [ok [], ok []]).script = some (.ok []) :: some (.ok []) :: [] ∧
    (coreAt .uninitialized [bad]).script = some (.ioError ⟨7⟩) :: [] ∧
    (coreAt .uninitialized [ok [], bad]).script = some (.ok []) :: some (.ioError ⟨7⟩) :: [] := by decide

theorem witness_ResetSendsItsCommandInEveryState :
    (coreAt .uninitialized [ok []]).ph = .ready ∧ (coreAt .measuring [ok []]).ph = .ready ∧
    (coreAt .uninitialized [ok []]).script = some (.ok []) :: [] := by decide

theorem witness_StartAndStopMoveTheLifecycle :
    ((coreAt .idle [ok []]).ph = .ready ∧ (coreAt .idle [ok []]).ls = .idle ∧
      (coreAt .idle [ok []]).script = some (.ok []) :: []) ∧
    ((coreAt .measuring [ok []]).ph = .ready ∧ (coreAt .measuring [ok []]).ls = .measuring ∧
      (coreAt .measuring [ok []]).script = some (.ok []) :: []) := by decide

theorem witness_IdentityQueriesReturnTheirString :
    (coreAt .idle [ok [], ok (responseOf (List.replicate 16 0x4141))]).ph = .ready ∧
    (coreAt .idle [ok [], ok (responseOf (List.replicate 16 0x4141))]).ls ≠ .uninitialized ∧
    (List.replicate 16 (0x4141 : Word)).length = 16 ∧
    (coreAt .idle []).cfg.opcSerial = 0xD033 ∧ (coreAt .idle []).cfg.dlySerial = 0 ∧
    (coreAt .idle []).cfg.opcProduct = 0xD025 ∧ (coreAt .idle []).cfg.dlyProduct = 0 ∧
    (coreAt .idle [ok [], ok (responseOf (List.replicate 16 0x4141))]).script =
      some (.ok []) :: some (.ok (responseOf (List.replicate 16 0x4141))) :: [] := by decide +kernel

theorem witness_DataReadyPollReturnsItsBoolean :
    ((coreAt .measuring [ok [], ok (responseOf [0xFFFF])]).ph = .ready ∧
      (coreAt .measuring [ok [], ok (responseOf [0xFFFF])]).ls = .measuring ∧
      (coreAt .measuring [ok [], ok (responseOf [0xFFFF])]).script =
        some (.ok []) :: some (.ok (responseOf [0xFFFF])) :: []) ∧
    ((coreAt .idle []).ph = .ready ∧ (coreAt .idle []).ls ≠ .measuring ∧ (coreAt .uninitialized []).ls ≠ .measuring) ∧
    (coreAt .measuring [bad]).script = some (.ioError ⟨7⟩) :: [] ∧
    (coreAt .measuring [ok [], bad]).script = some (.ok []) :: some (.ioError ⟨7⟩) :: [] ∧
    (checksum 0x00 0x01 ≠ 0xB1 ∧ (coreAt .measuring [ok [], ok [0x00, 0x01, 0xB1]]).script =
      some (.ok []) :: some (.ok [0x00, 0x01, 0xB1]) :: []) ∧
    ends (exec .isNewDataAvailable (coreAt .measuring [bad])) (fun _ => true) = true := by decide +kernel

theorem witness_MeasurementRecordIsPairsOfWords :
    (coreAt .measuring [ok [], ok (zeros 20)]).ph = .ready ∧ (coreAt .measuring [ok [], ok (zeros 20)]).ls = .measuring ∧
    (List.replicate 20 (0 : Word)).length = 20 ∧
    (coreAt .measuring [ok [], ok (zeros 20)]).script =
      some (.ok []) :: some (.ok (responseOf (List.replicate 20 0))) :: [] := by decide +kernel

theorem witness_AutoCleanIntervalIsTwoWords :
    ((coreAt .idle [ok []]).ph = .ready ∧ (coreAt .idle [ok []]).ls ≠ .uninitialized ∧
      (coreAt .idle [ok []]).script = some (.ok []) :: []) ∧
    ((coreAt .measuring [ok [], ok (responseOf [0xFFFF, 0xFFFF])]).ls ≠ .uninitialized ∧
      (coreAt .measuring [ok [], ok (responseOf [0xFFFF, 0xFFFF])]).script =
        some (.ok []) :: some (.ok (responseOf [0xFFFF, 0xFFFF])) :: []) := by decide +kernel

theorem witness_StateErrorExactlyInItsCells :
    ((coreAt .idle []).ph = .ready ∧ guardCell .getMeasurement (coreAt .idle []).ls = .stateError) ∧
    (Instr.stop.isHostOp = true ∧ ends (exec .stop (coreAt .idle [])) (fun t => t.ph == .ready) = true) := by decide

/-- The three writes of `LS`, each by a step of the host's request. -/
theorem witness_LifecycleChangesOnlyAtOkEndings :
    ends (step { coreAt .uninitialized [ok [], ok []] with requests := [.host 0x00 0] }) (fun t => t.ls != .uninitialized) =
      true ∧
    ends (step { coreAt .idle [ok []] with requests := [.host 0x04 0] }) (fun t => t.ls != .idle) = true ∧
    ends (step { coreAt .measuring [ok []] with requests := [.host 0x05 0] }) (fun t => t.ls != .measuring) = true := by
  decide

/-- Two states that differ in words, buffers and results. -/
theorem witness_HostOperationsIgnoreStaleRegisters :
    Instr.getAutoCleanInterval.isHostOp = true ∧ (coreAt .idle [bad]).ph = .ready ∧
    { coreAt .idle [bad] with w := [0x1234], nw := 1, ru32 := some 5, st := .checksumError, errIdx := some 3 } ≠
      coreAt .idle [bad] ∧
    ends (exec .getAutoCleanInterval
      { coreAt .idle [bad] with w := [0x1234], nw := 1, ru32 := some 5, st := .checksumError, errIdx := some 3 })
      (fun _ => true) = true := by
  refine ⟨rfl, rfl, ?_, by decide⟩
  intro h
  exact absurd (congrArg State.nw h) (by decide)

theorem witness_BusCommandsAreTransferred :
    (coreAt .uninitialized [ok []]).ph = .ready ∧ (coreAt .uninitialized [ok []]).script = some (.ok []) :: [] ∧
    0xAC = checksum (hiByte 0x0300) (loByte 0x0300) ∧ 0x81 = checksum (hiByte 0) (loByte 0) := by decide +kernel

theorem witness_BusQueriesFetchTheirResponse :
    (coreAt .idle [ok [], ok (zeros 20)]).ph = .ready ∧ (List.replicate 20 (0 : Word)).length = 20 ∧
    (coreAt .idle [ok [], ok (zeros 20)]).cfg.opcReadMeas = 0x0300 ∧
    (coreAt .idle [ok [], ok (zeros 20)]).cfg.dlyMeas = 10000 ∧
    (coreAt .idle [ok [], ok (zeros 20)]).script =
      some (.ok []) :: some (.ok (responseOf (List.replicate 20 0))) :: [] ∧
    (coreAt .idle [ok [], ok (zeros 16)]).script =
      some (.ok []) :: some (.ok (responseOf (List.replicate 16 0))) :: [] ∧
    (coreAt .idle [ok [], ok (zeros 2)]).script = some (.ok []) :: some (.ok (responseOf [0, 0])) :: [] ∧
    (coreAt .idle [ok [], ok (zeros 1)]).script = some (.ok []) :: some (.ok (responseOf [0])) :: [] := by decide +kernel

theorem witness_MalformedBusFramesAreRefused :
    (coreAt .idle []).ph = .ready ∧ (0xAC : Byte) ≠ checksum (hiByte 0x0100) (loByte 0x0100) ∧
    (0x08 : Byte) ≠ checksum (hiByte 0x0009) (loByte 0x0009) ∧ (0xA6 : Byte) ≠ checksum (hiByte 0x3A80) (loByte 0x3A80) := by
  decide +kernel

/-- Both ends of the reserved range, and a unit operation's identifier in a host request. -/
theorem witness_ReservedHostRequestsAreRefused :
    ({ coreAt .idle [] with requests := [.host 0x0A 0] } : State).cur = none ∧
    ({ coreAt .idle [] with requests := [.host 0x0A 0] } : State).requests = .host 0x0A 0 :: [] ∧
    0x0A ≤ (0x0A : BitVec 5).toNat ∧ 0x0A ≤ (0x1F : BitVec 5).toNat ∧ 0x0A ≤ (0x10 : BitVec 5).toNat := by decide

theorem witness_DecodeOfEncodeIsTheInstruction : Config.suggested.cmd0Opcodes.Nodup := by decide

theorem witness_EncodeOfDecodeIsTheRequest :
    decode Config.suggested (.frame [0x00, 0x10, 0x03, 0x00, 0xAC]) = .ok (.busStart 0x0300 0xAC) ∧
    decode Config.suggested (.unitOp 0x12 [0xFFFF, 0]) = .ok (.encode 0xFFFF [0]) ∧
    decode Config.suggested (.host 0x09 0xFFFFFFFF) = .ok (.setAutoCleanInterval 0xFFFFFFFF) ∧
    decode Config.suggested (.host 0x04 0xFFFFFFFF) = .ok .start := by decide

theorem witness_StepRunsTheDecodedRequest :
    (({ coreAt .idle [] with requests := [.host 0x04 0] } : State).cur = none ∧
      decode (coreAt .idle []).cfg (.host 0x04 0) = .ok .start) ∧
    decode (coreAt .idle []).cfg (.host 0x10 0) = .error (.hostUnitOpid 0x10) ∧
    ({ coreAt .idle [] with ph := .write, cur := some .reset } : State).cur = some .reset ∧
    ((coreAt .idle []).cur = none ∧ (coreAt .idle []).requests = []) := by decide

theorem witness_OverlappingRequestIsRefused :
    isReserved .start = false ∧ ({ coreAt .idle [] with ph := .write, cur := some .reset } : State).ph ≠ .ready ∧
    ({ coreAt .idle [] with ph := .write, cur := some .reset } : State).cur ≠ some .start := by decide

/-- An operation held in `Write`. -/
def heldStop : State :=
  { coreAt .measuring [ok []] with ph := .write, cur := some .stop, txb := bufferOf [0x01, 0x04], txlen := 2 }

/-- A query held in `Read`: its write has been answered. -/
def heldInRead : State :=
  { coreAt .idle [none, ok [0x00, 0x00, 0x81, 0x00, 0x01, 0xB0]] with
      ph := .read, cur := some .getAutoCleanInterval, txb := bufferOf [0x80, 0x04], txlen := 2,
      trace := [wrote 0x8004 []] }

/-- init held in `Addr`: the port is open. -/
def heldInAddr : State :=
  { coreAt .uninitialized [none, ok []] with
      ph := .addr, cur := some .init, trace := [.call (.openPath ⟨0⟩) (.ok [])] }

theorem witness_UnansweredCallHoldsTheCore :
    (coreAt .idle [none]).ph = .ready ∧ (coreAt .idle [none]).script = none :: [] ∧
    (Instr.start.wellFormed (coreAt .idle [none]).cfg = true ∧ guardCell .start (coreAt .idle [none]).ls = .run ∧
      exchangeOf (coreAt .idle [none]).cfg .start = .command 0x0010 [0x0300]) ∧
    (Instr.getSerialNumber.wellFormed (coreAt .idle [none]).cfg = true ∧
      guardCell .getSerialNumber (coreAt .idle [none]).ls = .run ∧
      exchangeOf (coreAt .idle [none]).cfg .getSerialNumber = .query 0xD033 0 16) ∧
    ((coreAt .uninitialized [none]).ls = .uninitialized ∧ (coreAt .uninitialized [none]).script = none :: []) ∧
    ((coreAt .idle [ok [], none]).script = some (.ok []) :: none :: [] ∧
      (coreAt .uninitialized [ok [], none]).script = some (.ok []) :: none :: []) := by decide

/-- An operation held in `Write`, in `Read` and in `Addr`, each in a state of the invariant. -/
theorem witness_HeldStatesMeetTheInvariant :
    (heldStop.Inv ∧ heldStop.cur = some .stop) ∧ (heldInRead.Inv ∧ heldInRead.cur = some .getAutoCleanInterval) ∧
    (heldInAddr.Inv ∧ heldInAddr.cur = some .init) ∧
    (heldInRead.script = none :: [ok [0x00, 0x00, 0x81, 0x00, 0x01, 0xB0]] ∧ heldInAddr.script = none :: [ok []]) :=
  ⟨⟨by decide, rfl⟩, ⟨by decide, rfl⟩, ⟨by decide, rfl⟩, rfl, rfl⟩

theorem witness_HeldOperationEndsAsIfAnsweredAtOnce :
    (coreAt .idle [none, ok []]).ph = .ready ∧ (coreAt .idle [none, ok []]).script = none :: [ok []] ∧
    Instr.start.wellFormed (coreAt .idle [none, ok []]).cfg = true ∧
    guardCell .start (coreAt .idle [none, ok []]).ls = .run ∧
    exchangeOf (coreAt .idle [none, ok []]).cfg .start ≠ .none ∧
    guardCell .init (coreAt .uninitialized [none]).ls = .run ∧
    ((coreAt .measuring [ok [], none]).script = some (.ok []) :: none :: [] ∧
      Instr.getMeasurement.wellFormed (coreAt .measuring [ok [], none]).cfg = true ∧
      guardCell .getMeasurement (coreAt .measuring [ok [], none]).ls = .run ∧
      exchangeOf (coreAt .measuring [ok [], none]).cfg .getMeasurement = .query 0x0300 10000 20) := by decide

/-- Each kind of operation goes on to a next state, with its guard passed and failed. -/
theorem witness_OperationsMakeOnlyTheirPortCalls :
    ends (exec .init (coreAt .uninitialized [ok [], bad])) (fun t => t.trace.length == 2) = true ∧
    ends (exec .init (coreAt .idle [])) (fun t => t.trace == []) = true ∧
    ends (exec (.decode 0) (coreWith [])) (fun t => t.trace == []) = true ∧
    ends (exec .start (coreAt .idle [bad])) (fun t => t.trace.length == 1) = true ∧
    ends (exec .getMeasurement (coreAt .measuring [ok [], none])) (fun t => t.trace.length == 2) = true ∧
    ends (exec .getMeasurement (coreAt .measuring [ok [], bad])) (fun t => t.trace.length == 3) = true ∧
    ends (exec .stop { heldStop with script := [bad] }) (fun t => t.trace.length == 1) = true ∧
    ends (exec .getAutoCleanInterval { heldInRead with script := [bad] })
      (fun t => t.trace == [wrote 0x8004 [], .call (.read 6) (.ioError ⟨7⟩)]) = true ∧
    ends (exec .init { heldInAddr with script := [ok []] }) (fun t => t.trace.length == 2) = true := by decide

theorem witness_CodecAndEngineFrame :
    ends (exec (.generateChecksum 0 0) (coreAt .idle [])) (fun _ => true) = true ∧
    ends (exec (.verifyChecksum 0 0 0) (coreAt .idle [])) (fun _ => true) = true ∧
    ends (exec (.decode 1) (coreWith [0x00, 0x01, 0xB0])) (fun t => t.st == .ok) = true ∧
    ends (exec (.decode 1) (coreWith [0x00, 0x01, 0xB1])) (fun t => t.st == .checksumError) = true ∧
    ends (exec (.encode 0 [0]) (coreAt .idle [])) (fun _ => true) = true := by decide +kernel

theorem witness_WritingOperationsFrame :
    ends (exec .init (coreAt .uninitialized [ok [], ok []])) (fun t => t.txlen == 0) = true ∧
    exchangeOf (coreAt .idle []).cfg .start = .command 0x0010 [0x0300] ∧
    ends (exec .start (coreAt .idle [ok []])) (fun t => t.txlen == 5) = true ∧
    ends (exec .start (coreAt .measuring [])) (fun t => t.txlen == 0) = true ∧
    exchangeOf (coreAt .idle []).cfg (.writeCommand 1) = .command 1 [] ∧
    ends (exec (.writeCommand 1) (coreAt .idle [bad])) (fun t => t.st == .transportError) = true := by decide

theorem witness_ReadingOperationsFrame :
    exchangeOf (coreAt .idle []).cfg (.readCommand 1 1) = .query 1 0 1 ∧
    ends (exec (.readCommand 1 1) (coreAt .idle [ok [], ok [0x00, 0x01, 0xB0]]))
      (fun t => t.trace == [] ++ [wrote 1 []] ++ [.call (.read 3) (.ok [0x00, 0x01, 0xB0])]) = true ∧
    ends (exec (.readCommand 1 1) (coreAt .idle [ok [], bad]))
      (fun t => t.trace == [] ++ [wrote 1 []] ++ [.call (.read 3) (.ioError ⟨7⟩)]) = true ∧
    ends (exec (.readCommand 1 1) (coreAt .idle [ok [], none])) (fun t => t.trace.getLast? == some (wrote 1 [])) = true ∧
    exchangeOf (coreAt .idle []).cfg .getMeasurement = .query 0x0300 10000 20 ∧
    ends (exec .getMeasurement (coreAt .idle [])) (fun t => t.txlen == 0) = true ∧
    ends (exec .getAutoCleanInterval { heldInRead with trace := [received 2 [0x00, 0x00, 0x81, 0x00, 0x00, 0x81]] })
      (fun t => t.trace == [received 2 [0x00, 0x00, 0x81, 0x00, 0x00, 0x81]] ++ [] && t.rxlen == 0) = true := by
  decide +kernel

/-- A measurement has failed at its last word. -/
def failedRead : State := { coreAt .measuring [] with st := .checksumError, errIdx := some 19 }

theorem witness_EveryStepKeepsInv : heldStop.Inv ∧ ends (step heldStop) (fun _ => true) = true := by decide

theorem witness_NoStepReadsAnElementWithoutValue :
    (heldStop.Inv ∧ heldStop.cur ≠ none) ∧ (failedRead.Inv ∧ failedRead.ph = .ready ∧ failedRead.st ≠ .ok) ∧
    ends (exec .stop heldStop) (fun t => t.ph == .ready && hostReads (t.hostResult .stop) (.ok .none)) = true :=
  ⟨⟨by decide, by decide⟩, ⟨by decide, rfl, by decide⟩, by decide⟩

theorem witness_StepsExtendTheTraceAndKeepTheConfiguration :
    ends (step { coreAt .idle [ok []] with requests := [.host 0x01 0] }) (fun t => t.trace.length == 1) = true := by
  decide

theorem witness_TransportErrorExactlyOnIoError :
    Instr.start.isHostOp = true ∧ (coreAt .idle [bad]).ph = .ready ∧ guardCell .start (coreAt .idle [bad]).ls = .run ∧
    (coreAt .idle [bad]).script = some (.ioError ⟨7⟩) :: [] ∧
    ends (exec .start (coreAt .idle [bad])) (fun t => t.ph == .ready &&
      t.trace == [] ++ [] ++ [.call (.write [0x00, 0x10, 0x03, 0x00, 0xAC]) (.ioError ⟨7⟩)]) = true := by decide +kernel

/-- One completed operation of each ending. -/
theorem witness_CompletedOperationShowsItsTypedResult :
    (coreAt .measuring [ok [], ok [0x00, 0x01, 0xB0]]).Inv ∧ Instr.isNewDataAvailable.isHostOp = true ∧
    ends (exec .isNewDataAvailable (coreAt .measuring [ok [], ok [0x00, 0x01, 0xB0]]))
      (fun t => t.ph == .ready && t.rbool == some true &&
        hostReads (t.hostResult .isNewDataAvailable) (.ok (.bool true))) = true ∧
    ends (exec .isNewDataAvailable (coreAt .measuring [ok [], ok [0x00, 0x01, 0xB1]])) (fun t => t.ph == .ready) = true ∧
    ends (exec .isNewDataAvailable (coreAt .measuring [bad])) (fun t => t.ph == .ready) = true ∧
    ends (exec .isNewDataAvailable (coreAt .idle [])) (fun t => t.ph == .ready) = true := by decide +kernel

theorem witness_ReadingAnElementWithoutValueFaults :
    (cutShortGood.ph = .ready ∧ 2 ≤ cutShortGood.cfg.maxW ∧ cutShortGood.rxlen = 3 * 2 ∧
      (∀ j < 1, holdsGood cutShortGood.rxb j) ∧ ∃ a, 3 * 1 ≤ a ∧ a < 3 * 1 + 3 ∧ Memory.read cutShortGood.rxb a = none) ∧
    (Instr.stop.wellFormed { heldStop with txb := [] }.cfg = true ∧ guardCell .stop heldStop.ls = .run ∧
      exchangeOf heldStop.cfg .stop ≠ .none ∧ ∃ a < heldStop.txlen, Memory.read [] a = none) ∧
    ((coreAt .idle []).readW 0 = none ∧ ∃ k < 20, (coreAt .idle []).readW k = none) ∧
    (({ coreAt .idle [] with st := .transportError } : State).ioErr = none ∧
      ({ coreAt .idle [] with st := .checksumError } : State).errIdx = none) ∧
    ((coreAt .idle []).st = .ok ∧ (coreAt .idle []).rbool = none ∧ (coreAt .idle []).ru32 = none ∧
      (coreAt .idle []).rrec = none ∧ (coreAt .idle []).rstrlen = none) :=
  ⟨⟨rfl, by decide, rfl, fun j hj => by
      obtain rfl : j = 0 := by omega
      exact ⟨0x00, 0x09, rfl, rfl, by decide +kernel⟩, 3, by decide, by decide, rfl⟩, ⟨rfl, rfl, by decide, 0, by decide, rfl⟩,
    ⟨rfl, 0, by decide, rfl⟩, ⟨rfl, rfl⟩, rfl, rfl, rfl, rfl, rfl⟩

end Sys2Proof.Tests
end

section
/-! The tagged result of a completed host operation (10_state.md rule R33): every next state of a host operation is held
at a port call, or a `raise`, or a `return Ok` with that operation's payload register written. -/

namespace Sys2Proof.Machine

variable {i : Instr} {s t : State}

/-! ### What the host reads of each ending -/

/-- The four tagged results of rule R33, each with the one register that goes with its tag. -/
abbrev ShowsTypedResult (i : Instr) (t : State) : Prop :=
  (∃ p, payloadOf i t p ∧ t.st = .ok ∧ t.hostResult i = .ok (.ok p)) ∨
  (∃ e, t.st = .transportError ∧ t.ioErr = some e ∧ t.hostResult i = .ok (.transportError e)) ∨
  (∃ k, t.st = .checksumError ∧ t.errIdx = some k ∧ t.hostResult i = .ok (.checksumError k)) ∨
  (t.st = .stateError ∧ t.hostResult i = .ok .stateError)

/-- A string whose register is as long as `RSTRLEN` says is read whole. -/
theorem readString_of_rstrlen (h : t.rstrlen = some t.rstr.length) : t.readString = some t.rstr := by
  simp [State.readString, h]

/-- The host reads the payload the operation wrote. -/
theorem readPayload_of_payloadOf {p : Payload} (h : payloadOf i t p) : t.readPayload i = .ok p := by
  cases i with
  | getSerialNumber | getProductNumber =>
    obtain ⟨hl, rfl⟩ := h
    simp [State.readPayload, readString_of_rstrlen hl, Except.map]
  | isNewDataAvailable | getMeasurement | getAutoCleanInterval =>
    obtain ⟨v, hv, rfl⟩ := h
    simp [State.readPayload, hv, Except.map]
  | _ => cases h; rfl

theorem raise_showsTypedResult (i : Instr) (s : State) (e : SensorError) : ShowsTypedResult i (s.raise e) := by
  cases e with
  | transport e => exact .inr (.inl ⟨e, rfl, rfl, rfl⟩)
  | checksum k => exact .inr (.inr (.inl ⟨k, rfl, rfl, rfl⟩))
  | state => exact .inr (.inr (.inr ⟨rfl, rfl⟩))

theorem payloadOf_returnOk {p : Payload} (h : payloadOf i s p) : payloadOf i s.returnOk p := by
  cases i <;> exact h

theorem returnOk_showsTypedResult {p : Payload} (h : payloadOf i s p) : ShowsTypedResult i s.returnOk := by
  have hp := payloadOf_returnOk h
  exact .inl ⟨p, hp, rfl, by simp [State.hostResult, readPayload_of_payloadOf hp, Except.map]⟩

/-! ### How a host operation ends -/

/-- A next state of host operation `i`: held at a port call (10_state.md rule R23), or left by one of the only two exits,
`raise` and `return Ok` (60_exceptions.md rules R156 and R157), the latter with the payload of `i` in place. -/
inductive HostEnding (i : Instr) : State → Prop where
  | held {t : State} (h : t.ph ≠ .ready) : HostEnding i t
  | raised (u : State) (e : SensorError) : HostEnding i (u.raise e)
  | returned (u : State) (p : Payload) (h : payloadOf i u p) : HostEnding i u.returnOk

/-- A completed ending shows its typed result. -/
theorem HostEnding.showsTypedResult (h : HostEnding i t) (hr : t.ph = .ready) : ShowsTypedResult i t := by
  cases h with
  | held hn => exact absurd hr hn
  | raised u e => exact raise_showsTypedResult i u e
  | returned u p hp => exact returnOk_showsTypedResult hp

/-- A port call with the executor's error exit, made outside `PH = Ready`, ends as what follows its answer does. -/
theorem portCall_ending {c : PortCall} {onError : IoError → State → State} {onOk : List Byte → State → State}
    (hs : s.ph ≠ .ready) (err : ∀ e u, HostEnding i (onError e u)) (ok : ∀ bs u, HostEnding i (onOk bs u)) :
    HostEnding i (portCall c onError onOk s) :=
  portCall_induct s (HostEnding i) c onError onOk (fun _ => .held hs) (fun e _ => err e _) fun bs _ => ok bs _

theorem writeStage_ending {bytes : List Byte} {onOk : State → State} (ok : ∀ u, HostEnding i (onOk u)) :
    HostEnding i (s.writeStage bytes onOk) :=
  portCall_ending (by simp) (fun e u => .raised u (.transport e)) fun _ u => ok u

theorem decodeTriplets_ending {n : Nat} {ts : List Triplet} {onOk : State → State}
    (ok : ∀ u, HostEnding i (onOk u)) : HostEnding i (s.decodeTriplets n ts onOk) := by
  cases hb : firstBad ts with
  | none => rw [decodeTriplets_ok s n ts onOk hb]; exact ok _
  | some k => rw [decodeTriplets_bad s n ts onOk k hb]; exact .raised _ _

theorem readStage_ending {n : Nat} {onOk : State → State} (ok : ∀ u, HostEnding i (onOk u)) :
    HostEnding i (s.readStage n onOk) :=
  portCall_ending (by simp) (fun e u => .raised u.dropResponse (.transport e)) fun _ _ => decodeTriplets_ending ok

theorem sendCommand_ending {opcode : Word} {args : List Word} {onOk : State → State}
    (ok : ∀ u, HostEnding i (onOk u)) (h : s.sendCommand opcode args onOk = .next t) : HostEnding i t := by
  obtain ⟨-, rfl⟩ | ⟨-, bytes, -, rfl⟩ := sendCommand_next s opcode args onOk t h <;> exact writeStage_ending ok

theorem query_ending {opcode : Word} {delay n : Nat} {onOk : State → State}
    (ok : ∀ u, HostEnding i (onOk u)) (h : s.query opcode delay n onOk = .next t) : HostEnding i t := by
  obtain ⟨-, rfl⟩ | ⟨-, h⟩ := query_next s opcode delay n onOk t h
  · exact readStage_ending ok
  · exact sendCommand_ending (fun _ => readStage_ending ok) h

theorem addressStage_ending : HostEnding .init s.addressStage :=
  portCall_ending (by simp) (fun e u => .raised u (.transport e)) fun _ _ => .returned _ .none rfl

theorem openStage_ending : HostEnding .init s.openStage :=
  portCall_ending (by simp) (fun e u => .raised u (.transport e)) fun _ _ => addressStage_ending

/-! ### The envelope and the guards -/

/-- A host operation that answers a next state got it from its body. -/
theorem hostOp_next {j : Instr} {body : State → Result} (h : hostOp j body s = .next t) : ∃ u, body u = .next t := by
  obtain ⟨-, h⟩ | ⟨-, -, h⟩ := run_next s j State.acceptHost body t h
  · exact ⟨_, h⟩
  · exact ⟨s, h⟩

theorem whenInitialized_ending {body : State → Result} (hb : body s = .next t → HostEnding i t)
    (h : s.whenInitialized body = .next t) : HostEnding i t := by
  unfold State.whenInitialized at h
  split at h
  · cases h; exact .raised s .state
  · exact hb h
  · exact hb h

theorem whenMeasuring_ending {body : State → Result} (hb : body s = .next t → HostEnding i t)
    (h : s.whenMeasuring body = .next t) : HostEnding i t := by
  unfold State.whenMeasuring at h
  split at h
  · cases h; exact .raised s .state
  · cases h; exact .raised s .state
  · exact hb h

/-! ### Operation by operation -/

theorem execInit_ending (h : execInit s = .next t) : HostEnding .init t := by
  obtain ⟨u, h⟩ := hostOp_next h
  split at h
  · cases h
    split
    · exact addressStage_ending
    · exact openStage_ending
  · cases h; exact .raised u .state
  · cases h; exact .raised u .state

theorem execStart_ending (h : execStart s = .next t) : HostEnding .start t := by
  obtain ⟨u, h⟩ := hostOp_next h
  split at h
  · cases h; exact .raised u .state
  · exact sendCommand_ending (fun _ => .returned _ .none rfl) h
  · cases h; exact .returned u .none rfl

theorem execStop_ending (h : execStop s = .next t) : HostEnding .stop t := by
  obtain ⟨u, h⟩ := hostOp_next h
  split at h
  · cases h; exact .raised u .state
  · cases h; exact .returned u .none rfl
  · exact sendCommand_ending (fun _ => .returned _ .none rfl) h

theorem execReset_ending (h : execReset s = .next t) : HostEnding .reset t := by
  obtain ⟨u, h⟩ := hostOp_next h
  exact sendCommand_ending (fun _ => .returned _ .none rfl) h

theorem execSetAutoCleanInterval_ending {seconds : DWord} (h : execSetAutoCleanInterval seconds s = .next t) :
    HostEnding (.setAutoCleanInterval seconds) t := by
  obtain ⟨u, h⟩ := hostOp_next h
  exact whenInitialized_ending (fun h => sendCommand_ending (fun _ => .returned _ .none rfl) h) h

theorem execGetSerialNumber_ending (h : execGetSerialNumber s = .next t) : HostEnding .getSerialNumber t := by
  obtain ⟨u, h⟩ := hostOp_next h
  refine whenInitialized_ending (fun h => ?_) h
  rw [query_packString] at h
  exact query_ending (fun _ => .returned _ _ ⟨rfl, rfl⟩) h

theorem execGetProductNumber_ending (h : execGetProductNumber s = .next t) : HostEnding .getProductNumber t := by
  obtain ⟨u, h⟩ := hostOp_next h
  refine whenInitialized_ending (fun h => ?_) h
  rw [query_packString] at h
  exact query_ending (fun _ => .returned _ _ ⟨rfl, rfl⟩) h

theorem execIsNewDataAvailable_ending (h : execIsNewDataAvailable s = .next t) :
    HostEnding .isNewDataAvailable t := by
  obtain ⟨u, h⟩ := hostOp_next h
  refine whenMeasuring_ending (fun h => ?_) h
  rw [query_packBool] at h
  exact query_ending (fun _ => .returned _ _ ⟨_, rfl, rfl⟩) h

theorem execGetMeasurement_ending (h : execGetMeasurement s = .next t) : HostEnding .getMeasurement t := by
  obtain ⟨u, h⟩ := hostOp_next h
  refine whenMeasuring_ending (fun h => ?_) h
  rw [query_packRecord] at h
  exact query_ending (fun _ => .returned _ _ ⟨_, rfl, rfl⟩) h

theorem execGetAutoCleanInterval_ending (h : execGetAutoCleanInterval s = .next t) :
    HostEnding .getAutoCleanInterval t := by
  obtain ⟨u, h⟩ := hostOp_next h
  refine whenInitialized_ending (fun h => ?_) h
  rw [query_packU32] at h
  exact query_ending (fun _ => .returned _ _ ⟨_, rfl, rfl⟩) h

/-- Every next state of a host operation is one of the three endings, whatever state it was issued or resumed in. -/
theorem exec_hostOp_ending (hi : i.isHostOp = true) (h : exec i s = .next t) : HostEnding i t := by
  cases i with
  | init => exact execInit_ending h
  | reset => exact execReset_ending h
  | getSerialNumber => exact execGetSerialNumber_ending h
  | getProductNumber => exact execGetProductNumber_ending h
  | start => exact execStart_ending h
  | stop => exact execStop_ending h
  | isNewDataAvailable => exact execIsNewDataAvailable_ending h
  | getMeasurement => exact execGetMeasurement_ending h
  | getAutoCleanInterval => exact execGetAutoCleanInterval_ending h
  | setAutoCleanInterval seconds => exact execSetAutoCleanInterval_ending h
  | _ => cases hi

/-- Settles O55: a completed host operation has left by `raise` or by `return Ok` with its payload register written. -/
theorem completedOperationShowsItsTypedResult : Obligations.CompletedOperationShowsItsTypedResult := by
  unfold Obligations.CompletedOperationShowsItsTypedResult
  intro i s t _ hi h hr
  exact (exec_hostOp_ending hi h).showsTypedResult hr

end Sys2Proof.Machine
end

section
/-! The bytes of a word as numbers (30_encoding.md rule R62): the high byte is the quotient by 256 and the low byte the
remainder. The value of a concatenation follows, since its two bytes are the ones it was made of. -/

namespace Sys2Proof

@[simp] theorem toNat_hiByte (w : Word) : (hiByte w).toNat = w.toNat / 256 := by
  have shift : w.toNat >>> 8 = w.toNat / 256 := Nat.shiftRight_eq_div_pow _ _
  have fits : w.toNat / 256 < 256 := by have := w.isLt; omega
  rw [hiByte, BitVec.extractLsb'_toNat, shift, Nat.mod_eq_of_lt fits]

@[simp] theorem toNat_loByte (w : Word) : (loByte w).toNat = w.toNat % 256 := by
  rw [loByte, BitVec.extractLsb'_toNat, Nat.shiftRight_zero]

@[simp] theorem toNat_catBytes (h l : Byte) : (catBytes h l).toNat = h.toNat * 256 + l.toNat := by
  calc (catBytes h l).toNat
      = (catBytes h l).toNat / 256 * 256 + (catBytes h l).toNat % 256 := (Nat.div_add_mod' _ _).symm
    _ = h.toNat * 256 + l.toNat := by rw [← toNat_hiByte, ← toNat_loByte, hiByte_catBytes, loByte_catBytes]

/-- Settles O8, from the value of each byte and of their concatenation. -/
theorem wordIsHighByteThenLowByte : Obligations.WordIsHighByteThenLowByte := by
  unfold Obligations.WordIsHighByteThenLowByte
  exact ⟨fun h l => ⟨toNat_catBytes h l, hiByte_catBytes h l, loByte_catBytes h l⟩,
    fun w => ⟨toNat_hiByte w, toNat_loByte w, catBytes_hi_lo w⟩⟩

end Sys2Proof
end

section
/-! The frame that encode leaves in `TXB` (41_codec.md rule R90): where each triplet of a frame stands, and what the two
branches of encode answer. -/

namespace Sys2Proof

/-- Word `k` of a response stands at byte `3*k` (30_encoding.md rule R61). -/
theorem getElem?_responseOf {ws : List Word} {k j : Nat} {w : Word} (hw : ws[k]? = some w) (hj : j < 3) :
    (responseOf ws)[3 * k + j]? = (wordTriplet w)[j]? := by
  induction ws generalizing k with
  | nil => cases hw
  | cons v ws ih =>
    cases k with
    | zero =>
      obtain rfl : v = w := by simpa using hw
      rw [responseOf, Nat.mul_zero, Nat.zero_add, List.getElem?_append_left hj]
    | succ k =>
      have past : 3 * (k + 1) + j = (wordTriplet v).length + (3 * k + j) := by simp only [wordTriplet, List.length]; omega
      rw [responseOf, past, List.getElem?_append_right (Nat.le_add_right ..), Nat.add_sub_cancel_left]
      exact ih hw

/-- Argument `k` of a frame stands at byte `2 + 3*k`, behind the opcode's two bytes (30_encoding.md rule R60). -/
theorem getElem?_frameOf {args : List Word} {k j : Nat} {w : Word} (opcode : Word) (hw : args[k]? = some w)
    (hj : j < 3) : (frameOf opcode args)[j + 2 + 3 * k]? = (wordTriplet w)[j]? := by
  rw [show j + 2 + 3 * k = 3 * k + j + 2 by omega]
  exact getElem?_responseOf hw hj

namespace Machine

theorem bytesAt_eq_cellsFrom (a : Nat) (bs : List Byte) : bytesAt a bs = cellsFrom a bs := by
  induction bs generalizing a with
  | nil => rfl
  | cons b bs ih => rw [bytesAt, cellsFrom, ih]

theorem bufferOf_eq_cellsFrom (bs : List Byte) : bufferOf bs = cellsFrom 0 bs := bytesAt_eq_cellsFrom 0 bs

/-- A buffer that holds exactly these bytes reads as them, and as no value behind them. -/
@[simp] theorem Memory.read_bufferOf (bs : List Byte) (a : Nat) : Memory.read (bufferOf bs) a = bs[a]? := by
  rw [bufferOf_eq_cellsFrom, Memory.read_buffer]

/-- The codec's write of a whole frame leaves the state that the statements call framed, in the encode phase. -/
theorem encodeFrame_eq_framed (s : State) (opcode : Word) (args : List Word) :
    s.encodeFrame opcode args = { s.framed opcode args with ph := .encode } := by
  rw [State.encodeFrame, Memory.writeBytes_nil, ← bufferOf_eq_cellsFrom]
  rfl

variable {s : State} {opcode : Word} {args : List Word}

theorem exec_encode_fits (hr : s.ph = .ready) (hn : args.length ≤ s.cfg.maxW) :
    exec (.encode opcode args) s =
      .next (((s.opened (.encode opcode args)).framed opcode args).returned (.length (2 + 3 * args.length))) := by
  rw [exec, execEncode, unitOp_ready _ _ _ hr, State.acceptUnit_cfg, if_pos hn, encodeFrame_eq_framed]
  rfl

theorem exec_encode_overCapacity (hr : s.ph = .ready) (hn : s.cfg.maxW < args.length) :
    exec (.encode opcode args) s = .refused (.overCapacity args.length) := by
  rw [exec, execEncode, unitOp_ready _ _ _ hr]
  exact if_neg (Nat.not_le.2 hn)

/-- After encode, `TXB` reads as the frame. -/
theorem read_txb_returned_framed (u : State) (v : Returned) (a : Nat) :
    Memory.read ((u.framed opcode args).returned v).txb a = (frameOf opcode args)[a]? :=
  Memory.read_bufferOf _ a

/-- Settles O9: `TXB` reads as the frame, so every byte's place is its place in the frame. -/
theorem encodeLaysOutTheFrame : Obligations.EncodeLaysOutTheFrame := by
  unfold Obligations.EncodeLaysOutTheFrame
  refine ⟨fun opcode args s hr hn => ?_, fun _ _ _ => exec_encode_overCapacity, by decide +kernel⟩
  refine ⟨_, exec_encode_fits hr hn, rfl, ?_⟩
  simp only [read_txb_returned_framed]
  refine ⟨rfl, rfl, fun k w hw => ?_, fun a ha => ?_, fun _ => rfl⟩
  · have byte (j : Nat) (hj : j < 3) := getElem?_frameOf opcode hw hj
    exact ⟨byte 0 (by decide), byte 1 (by decide), byte 2 (by decide)⟩
  · exact List.getElem?_eq_none (by rwa [length_frameOf])

end Machine

end Sys2Proof
end

section
/-! read_command as read_delayed with no delay (42_executor.md rule R103). The executor's stages commute with forgetting
the name of the operation in progress, record no delay event (the settling delay apart, and that records none when it is
0), and commit the words of an intact response. -/

namespace Sys2Proof.Machine

variable {s t : State} {opcode : Word} {n : Nat} {onOk : State → State}

/-! ### The two operations, accepted or resumed -/

/-- What read_delayed and read_command do once accepted or resumed: the query, when its words fit (20_memory.md rule
R54). -/
def State.queryWithin (s : State) (opcode : Word) (delay n : Nat) : Result :=
  if n ≤ s.cfg.maxW then s.query opcode delay n fun s => s.returnUnit .ok else .refused (.overCapacity n)

theorem exec_readDelayed_eq (opcode : Word) (delay n : Nat) (s : State) :
    exec (.readDelayed opcode delay n) s = unitOp (.readDelayed opcode delay n) (·.queryWithin opcode delay n) s := rfl

theorem exec_readCommand_eq (opcode : Word) (n : Nat) (s : State) :
    exec (.readCommand opcode n) s = unitOp (.readCommand opcode n) (·.queryWithin opcode 0 n) s := rfl

theorem queryWithin_fits (s : State) {delay : Nat} (h : n ≤ s.cfg.maxW) :
    s.queryWithin opcode delay n = s.query opcode delay n fun s => s.returnUnit .ok := if_pos h

theorem queryWithin_overCapacity (s : State) {delay : Nat} (h : ¬ n ≤ s.cfg.maxW) :
    s.queryWithin opcode delay n = .refused (.overCapacity n) := if_neg h

/-! ### The name of the operation in progress -/

/-- A state with the name of the operation in progress put to one fixed value: `withoutName` on states. -/
def State.unnamed (s : State) : State := { s with cur := s.cur.map fun _ => .reset }

@[simp] theorem State.unnamed_ph (s : State) : s.unnamed.ph = s.ph := rfl
@[simp] theorem State.unnamed_cfg (s : State) : s.unnamed.cfg = s.cfg := rfl

@[simp] theorem withoutName_next (s : State) : withoutName (.next s) = .next s.unnamed := rfl

/-- Two unit operations are accepted into states that differ in the name only. -/
theorem acceptUnit_unnamed (s : State) (i j : Instr) : (s.acceptUnit i).unnamed = (s.acceptUnit j).unnamed := rfl

/-- The port does not see the name: a call commutes with forgetting it when what follows the answer does. -/
theorem portCall_unnamed {c : PortCall} {onError : IoError → State → State} {onOk : List Byte → State → State}
    (err : ∀ e, Function.Commute State.unnamed (onError e)) (ok : ∀ bs, Function.Commute State.unnamed (onOk bs)) :
    Function.Commute State.unnamed (portCall c onError onOk) := by
  intro s
  have same : s.unnamed.reply c = s.reply c := rfl
  unfold portCall
  rw [same]
  rcases s.reply c with _ | ⟨bs⟩ | ⟨e⟩
  · rfl
  · exact ok bs _
  · exact err e _

theorem raiseTransport_unnamed (e : IoError) : Function.Commute State.unnamed (raiseTransport e) := fun _ => rfl

theorem settle_unnamed (us : Nat) : Function.Commute State.unnamed (·.settle us) := by
  intro s
  show (s.settle us).unnamed = s.unnamed.settle us
  unfold State.settle
  split <;> rfl

theorem decodeTriplets_unnamed (ts : List Triplet) (ok : Function.Commute State.unnamed onOk) :
    Function.Commute State.unnamed (·.decodeTriplets n ts onOk) := by
  intro s
  show (s.decodeTriplets n ts onOk).unnamed = s.unnamed.decodeTriplets n ts onOk
  cases hb : firstBad ts with
  | none => rw [decodeTriplets_ok _ _ _ _ hb, decodeTriplets_ok _ _ _ _ hb]; exact ok _
  | some k => rw [decodeTriplets_bad _ _ _ _ _ hb, decodeTriplets_bad _ _ _ _ _ hb]; rfl

theorem readStage_unnamed (ok : Function.Commute State.unnamed onOk) :
    Function.Commute State.unnamed (·.readStage n onOk) := fun s =>
  portCall_unnamed (fun e u => raiseTransport_unnamed e u.dropResponse)
    (fun bs u => decodeTriplets_unnamed (tripletsOf bs) ok (u.loadResponse n bs)) { s with ph := .read }

theorem writeStage_unnamed (bytes : List Byte) (ok : Function.Commute State.unnamed onOk) :
    Function.Commute State.unnamed (·.writeStage bytes onOk) := fun s =>
  portCall_unnamed raiseTransport_unnamed (fun _ => ok) { s with ph := .write }

/-- The outcome of a query that is not yet outstanding, its name forgotten, is that of the query with the name forgotten
at once. -/
theorem withoutName_query (hr : s.ph = .ready) (delay : Nat) (ok : Function.Commute State.unnamed onOk) :
    withoutName (s.query opcode delay n onOk) = s.unnamed.query opcode delay n onOk := by
  have fresh (u : State) (hu : u.ph = .ready) := query_fresh u opcode delay n onOk (by simp [hu]) (by simp [hu])
  rw [fresh s hr, fresh s.unnamed hr, withoutName_next]
  exact congrArg _ (writeStage_unnamed _ ((readStage_unnamed ok).comp_right (settle_unnamed delay)) _)

theorem withoutName_queryWithin (s : State) (hr : s.ph = .ready) (delay : Nat) :
    withoutName (s.queryWithin opcode delay n) = s.unnamed.queryWithin opcode delay n := by
  by_cases hn : n ≤ s.cfg.maxW
  · rw [queryWithin_fits s hn, queryWithin_fits s.unnamed hn]
    exact withoutName_query hr delay fun _ => rfl
  · rw [queryWithin_overCapacity s hn, queryWithin_overCapacity s.unnamed hn]
    rfl

/-- The first clause of rule R103: the same query, under another name. -/
theorem readCommand_eq_readDelayed_withoutName (hr : s.ph = .ready) :
    withoutName (exec (.readCommand opcode n) s) = withoutName (exec (.readDelayed opcode 0 n) s) := by
  have accepted (i : Instr) : withoutName (unitOp i (·.queryWithin opcode 0 n) s) =
      (s.acceptUnit i).unnamed.queryWithin opcode 0 n := by
    rw [unitOp_ready _ _ _ hr, withoutName_queryWithin (s.acceptUnit i) hr]
  rw [exec_readCommand_eq, exec_readDelayed_eq, accepted, accepted, acceptUnit_unnamed]

/-! ### Delay events -/

@[simp] theorem State.settle_zero (s : State) : s.settle 0 = s := rfl

/-- An operation on the state that records no delay of `us` microseconds. -/
def RecordsNoDelay (us : Nat) (f : State → State) : Prop :=
  ∀ u, (f u).trace.count (.delay us) = u.trace.count (.delay us)

variable {us : Nat}

theorem portCall_recordsNoDelay {c : PortCall} {onError : IoError → State → State} {onOk : List Byte → State → State}
    (err : ∀ e, RecordsNoDelay us (onError e)) (ok : ∀ bs, RecordsNoDelay us (onOk bs)) :
    RecordsNoDelay us (portCall c onError onOk) := by
  intro s
  have call (a : PortAnswer) :
      (s.polled.record (.call c a)).trace.count (.delay us) = s.trace.count (.delay us) := by simp
  exact portCall_induct s (fun t => t.trace.count (.delay us) = s.trace.count (.delay us)) c onError onOk
    (fun _ => rfl) (fun e _ => (err e _).trans (call _)) fun bs _ => (ok bs _).trans (call _)

theorem raiseTransport_recordsNoDelay (e : IoError) : RecordsNoDelay us (raiseTransport e) := fun _ => rfl

theorem decodeTriplets_recordsNoDelay (ts : List Triplet) (ok : RecordsNoDelay us onOk) :
    RecordsNoDelay us (·.decodeTriplets n ts onOk) := by
  intro s
  show (s.decodeTriplets n ts onOk).trace.count _ = _
  cases hb : firstBad ts with
  | none => rw [decodeTriplets_ok _ _ _ _ hb]; exact ok _
  | some k => rw [decodeTriplets_bad _ _ _ _ _ hb]; rfl

theorem readStage_recordsNoDelay (ok : RecordsNoDelay us onOk) : RecordsNoDelay us (·.readStage n onOk) := fun s =>
  portCall_recordsNoDelay (fun e u => raiseTransport_recordsNoDelay e u.dropResponse)
    (fun bs u => decodeTriplets_recordsNoDelay (tripletsOf bs) ok (u.loadResponse n bs)) { s with ph := .read }

theorem writeStage_recordsNoDelay (bytes : List Byte) (ok : RecordsNoDelay us onOk) :
    RecordsNoDelay us (·.writeStage bytes onOk) := fun s =>
  portCall_recordsNoDelay raiseTransport_recordsNoDelay (fun _ => ok) { s with ph := .write }

/-- A query with no settling delay records none, wherever it starts. -/
theorem query_zero_count_delay (ok : RecordsNoDelay us onOk) (h : s.query opcode 0 n onOk = .next t) :
    t.trace.count (.delay us) = s.trace.count (.delay us) := by
  have read : RecordsNoDelay us (·.readStage n onOk) := readStage_recordsNoDelay ok
  obtain ⟨-, rfl⟩ | ⟨-, h⟩ := query_next s opcode 0 n onOk t h
  · exact read s
  · simp only [State.settle_zero] at h
    obtain ⟨-, rfl⟩ | ⟨-, bytes, -, rfl⟩ := sendCommand_next s opcode [] _ t h
    · exact writeStage_recordsNoDelay _ read (s.encodeFrame opcode [])
    · exact writeStage_recordsNoDelay bytes read s

theorem queryWithin_zero_count_delay (s : State) (h : s.queryWithin opcode 0 n = .next t) :
    t.trace.count (.delay us) = s.trace.count (.delay us) := by
  by_cases hn : n ≤ s.cfg.maxW
  · rw [queryWithin_fits s hn] at h
    exact query_zero_count_delay (onOk := fun s => s.returnUnit .ok) (fun _ => rfl) h
  · rw [queryWithin_overCapacity s hn] at h
    cases h

/-- The second clause of rule R103, from any state: accepted, or resumed where it was held. -/
theorem readCommand_count_delay (h : exec (.readCommand opcode n) s = .next t) :
    t.trace.count (.delay us) = s.trace.count (.delay us) := by
  obtain ⟨-, h⟩ | ⟨-, -, h⟩ := run_next s (.readCommand opcode n) State.acceptUnit (·.queryWithin opcode 0 n) t h
  · exact queryWithin_zero_count_delay (s.acceptUnit _) h
  · exact queryWithin_zero_count_delay s h

/-! ### An answered write and an intact response -/

variable {rest : List (Option PortAnswer)}

/-- A write the port answers with `Ok` goes on, with its poll used up. -/
theorem writeStage_answered {b : List Byte} (bytes : List Byte) (h : s.script = some (.ok b) :: rest) :
    ∃ u : State, s.writeStage bytes onOk = onOk u ∧ u.script = rest := by
  have answer : ({ s with ph := .write } : State).reply (.write bytes) = some (.ok []) := reply_script _ _ _ rest h
  unfold State.writeStage portCall
  rw [answer]
  exact ⟨_, rfl, congrArg List.tail h⟩

/-- A read the port answers with the intact response of these words commits them. -/
theorem readStage_intact (ws : List Word) (h : s.script = some (.ok (responseOf ws)) :: rest) :
    ∃ u : State, s.readStage ws.length onOk = onOk u ∧ u.w = ws ∧ u.nw = ws.length := by
  have answer : ({ s with ph := .read } : State).reply (.read (3 * ws.length)) = some (.ok (responseOf ws)) := by
    rw [reply_script ({ s with ph := .read } : State) _ _ rest h]
    simp [conform]
  have intact : firstBad (tripletsOf (responseOf ws)) = none := by simp
  unfold State.readStage portCall
  rw [answer]
  exact ⟨_, decodeTriplets_ok _ _ _ _ intact, by simp [Function.comp_def], rfl⟩

/-- A query that is not yet outstanding, its write and its read both answered well, goes on with the words of its
response. -/
theorem query_intact {b : List Byte} (ws : List Word) (delay : Nat) (hr : s.ph = .ready)
    (h : s.script = some (.ok b) :: some (.ok (responseOf ws)) :: rest) :
    ∃ u : State, s.query opcode delay ws.length onOk = .next (onOk u) ∧ u.w = ws ∧ u.nw = ws.length := by
  obtain ⟨u, write, hu⟩ := writeStage_answered (s := s.encodeFrame opcode [])
    (onOk := fun s => (s.settle delay).readStage ws.length onOk) (frameOf opcode []) h
  obtain ⟨v, read, words⟩ := readStage_intact (onOk := onOk) ws ((u.settle_script delay).trans hu)
  refine ⟨v, ?_, words⟩
  rw [query_fresh s _ _ _ _ (by simp [hr]) (by simp [hr]), write, read]

/-- A read_command whose write and read are both answered well ends with the words of its response. -/
theorem readCommand_words {b : List Byte} (ws : List Word) (hr : s.ph = .ready) (hn : ws.length ≤ s.cfg.maxW)
    (h : s.script = some (.ok b) :: some (.ok (responseOf ws)) :: rest) :
    ∃ t, exec (.readCommand opcode ws.length) s = .next t ∧ t.w = ws ∧ t.nw = ws.length := by
  rw [exec_readCommand_eq, unitOp_ready _ _ _ hr, queryWithin_fits (s.acceptUnit _) hn]
  obtain ⟨u, hu, words⟩ := query_intact (s := s.acceptUnit (.readCommand opcode ws.length)) ws 0 hr h
  exact ⟨u.returnUnit .ok, hu, words⟩

/-- Settles O17: one query under two names, its settling delay 0, and the worked example read as an intact response. -/
theorem readCommandIsReadDelayedWithNoDelay : Obligations.ReadCommandIsReadDelayedWithNoDelay := by
  unfold Obligations.ReadCommandIsReadDelayedWithNoDelay
  refine ⟨fun _ _ _ hr => readCommand_eq_readDelayed_withoutName hr, fun _ _ _ _ _ h => readCommand_count_delay h,
    fun s b rest hr h => ?_⟩
  have response : [0x00, 0x09, 0x09, 0x3A, 0x80, 0xA7] = responseOf [0x0009, 0x3A80] := by decide +kernel
  have fits : 2 ≤ s.cfg.maxW := by unfold Config.maxW; omega
  rw [response] at h
  exact readCommand_words [0x0009, 0x3A80] hr fits h

end Sys2Proof.Machine
end

section
/-! The data-ready poll (43_lifecycle.md rule R127): what a port call, a read stage and a query come to when the script
answers them, in the terms of Safety.lean; what the query keeps of `LS`; and the poll's two branches. -/

namespace Sys2Proof.Machine

variable {s t : State} {opcode : Word} {delay n : Nat} {onOk : State → State}
  {rest : List (Option PortAnswer)}

/-! ### A scripted answer -/

@[simp] theorem State.passed_script (s : State) (as : List (Option PortAnswer)) (es : List PortEvent) :
    (s.passed as es).script = as := rfl

/-- The polling of a script's next answer, and the record of its event. -/
theorem polled_record_eq_passed {a : Option PortAnswer} (h : s.script = a :: rest) (e : PortEvent) :
    s.polled.record e = s.passed rest [e] := by
  simp [State.polled, State.record, State.passed, h]

theorem conform_ioError (c : PortCall) (e : IoError) : conform c (.ioError e) = .ioError e := by cases c <;> rfl

/-- A response of exactly the bytes asked for meets the port's contract (92_eei_decisions.md D36). -/
theorem conform_read {count : Nat} {bs : List Byte} (h : bs.length = count) :
    conform (.read count) (.ok bs) = .ok bs := if_pos h

section
variable {c : PortCall} {onError : IoError → State → State} {onBytes : List Byte → State → State}

theorem portCall_ok {b bs : List Byte} (h : s.script = some (.ok b) :: rest) (hc : conform c (.ok b) = .ok bs) :
    portCall c onError onBytes s = onBytes bs (s.passed rest [.call c (.ok bs)]) := by
  rw [portCall, reply_script s c _ rest h, Option.map_some, hc, ← polled_record_eq_passed h]

theorem portCall_ioError {e : IoError} (h : s.script = some (.ioError e) :: rest) :
    portCall c onError onBytes s = onError e (s.passed rest [.call c (.ioError e)]) := by
  rw [portCall, reply_script s c _ rest h, Option.map_some, conform_ioError, ← polled_record_eq_passed h]

end

/-! ### The write stage -/

theorem writeStage_ok {bytes b : List Byte} (h : s.script = some (.ok b) :: rest) :
    s.writeStage bytes onOk = onOk (({ s with ph := .write } : State).passed rest [.call (.write bytes) (.ok [])]) :=
  portCall_ok (s := { s with ph := .write }) h rfl

/-- A write the port fails: its error is raised. -/
theorem writeStage_ioError {bytes : List Byte} {e : IoError} (h : s.script = some (.ioError e) :: rest) :
    ∃ u : State, s.writeStage bytes onOk = u.raise (.transport e) :=
  ⟨_, portCall_ioError (s := { s with ph := .write }) h⟩

/-! ### The read stage -/

theorem crcAfterTriplets_words (ws : List Word) (crc : Option Byte) :
    crcAfterTriplets (ws.map tripletOfWord) crc = (ws.getLast?.map wordChecksum).or crc := by
  simp only [crcAfterTriplets, List.getLast?_map, Option.map_map]
  rfl

/-- The decoding of an intact response leaves the state that the statements call decoded. -/
theorem decodeTriplets_intact (s : State) (ws : List Word) :
    s.decodeTriplets ws.length (tripletsOf (responseOf ws)) onOk = onOk { s.decoded ws with ph := .decode } := by
  rw [tripletsOf_responseOf, decodeTriplets_ok _ _ _ _ (firstBad_words ws), crcAfterTriplets_words]
  simp [State.decoded, Function.comp_def]

theorem loadResponse_eq_received (s : State) (n : Nat) (bs : List Byte) : s.loadResponse n bs = s.received n bs := by
  rw [State.loadResponse, State.received, Memory.writeBytes_nil, bufferOf_eq_cellsFrom]

/-- A response of the length asked for is loaded and decoded. -/
theorem readStage_answered {bs : List Byte} (hb : bs.length = 3 * n) (h : s.script = some (.ok bs) :: rest) :
    s.readStage n onOk =
      ((({ s with ph := .read } : State).passed rest [received n bs]).received n bs).decodeTriplets n (tripletsOf bs)
        onOk := by
  rw [State.readStage, portCall_ok (s := { s with ph := .read }) h (conform_read hb), loadResponse_eq_received]
  rfl

/-- An intact response: its words are committed, and the stage goes on. -/
theorem readStage_committed (ws : List Word) (h : s.script = some (.ok (responseOf ws)) :: rest) :
    s.readStage ws.length onOk =
      onOk { ((s.received ws.length (responseOf ws)).decoded ws).passed rest [received ws.length (responseOf ws)] with
        ph := .decode } := by
  rw [readStage_answered (length_responseOf ws) h, decodeTriplets_intact]
  rfl

/-- A response with a failing triplet: the least failing index is raised. -/
theorem readStage_corrupt {bs : List Byte} {k : Nat} (hb : bs.length = 3 * n) (hk : firstBad (tripletsOf bs) = some k)
    (h : s.script = some (.ok bs) :: rest) : ∃ u : State, s.readStage n onOk = u.raise (.checksum k) := by
  rw [readStage_answered hb h, decodeTriplets_bad _ _ _ _ _ hk]
  exact ⟨_, rfl⟩

/-- A read the port fails: its error is raised. -/
theorem readStage_ioError {e : IoError} (h : s.script = some (.ioError e) :: rest) :
    ∃ u : State, s.readStage n onOk = u.raise (.transport e) :=
  ⟨_, portCall_ioError (s := { s with ph := .read }) h⟩

/-! ### A query that is not yet outstanding -/

/-- The settling delay before a read: the read stage sets the phase itself, so the delay leaves its events only. -/
theorem settle_readStage (s : State) (us : Nat) :
    (s.settle us).readStage n onOk = (s.passed s.script (waited us)).readStage n onOk := by
  unfold State.readStage
  congr 1
  by_cases h : us = 0 <;> simp [State.settle, State.passed, State.record, waited, h]

/-- A query whose write the port answers goes on to its read. -/
theorem query_written {b : List Byte} (hr : s.ph ≠ .read) (hw : s.ph ≠ .write)
    (h : s.script = some (.ok b) :: rest) :
    s.query opcode delay n onOk =
      .next (((s.framed opcode []).passed rest (wrote opcode [] :: waited delay)).readStage n onOk) := by
  rw [query_fresh s _ _ _ _ hr hw, writeStage_ok (s := s.encodeFrame opcode []) h, settle_readStage,
    encodeFrame_eq_framed]
  simp [State.passed, State.readStage, wrote]

/-- A query answered with an intact response commits its words and goes on. -/
theorem query_committed {b : List Byte} (ws : List Word) (hr : s.ph ≠ .read) (hw : s.ph ≠ .write)
    (h : s.script = some (.ok b) :: some (.ok (responseOf ws)) :: rest) :
    s.query opcode delay ws.length onOk =
      .next (onOk { (((s.framed opcode []).received ws.length (responseOf ws)).decoded ws).passed rest
        (queried opcode delay ws.length (responseOf ws)) with ph := .decode }) := by
  rw [query_written hr hw h, readStage_committed ws (rest := rest) rfl]
  simp [State.passed, State.received, State.decoded, queried]

/-- A query answered with a response that has a failing triplet raises the least failing index. -/
theorem query_corrupt {b bs : List Byte} {k : Nat} (hr : s.ph ≠ .read) (hw : s.ph ≠ .write) (hb : bs.length = 3 * n)
    (hk : firstBad (tripletsOf bs) = some k) (h : s.script = some (.ok b) :: some (.ok bs) :: rest) :
    ∃ u : State, s.query opcode delay n onOk = .next (u.raise (.checksum k)) := by
  obtain ⟨u, hu⟩ := readStage_corrupt (s := (s.framed opcode []).passed _ (wrote opcode [] :: waited delay))
    (onOk := onOk) hb hk (State.passed_script ..)
  exact ⟨u, by rw [query_written hr hw h, hu]⟩

/-- A query whose write or whose read the port fails raises the port's error. -/
theorem query_ioError {e : IoError} (hr : s.ph ≠ .read) (hw : s.ph ≠ .write)
    (h : s.script = some (.ioError e) :: rest ∨ ∃ b, s.script = some (.ok b) :: some (.ioError e) :: rest) :
    ∃ u : State, s.query opcode delay n onOk = .next (u.raise (.transport e)) := by
  rcases h with h | ⟨b, h⟩
  · obtain ⟨u, hu⟩ := writeStage_ioError (s := s.encodeFrame opcode []) (bytes := frameOf opcode [])
      (onOk := fun s => (s.settle delay).readStage n onOk) h
    exact ⟨u, by rw [query_fresh s _ _ _ _ hr hw, hu]⟩
  · obtain ⟨u, hu⟩ := readStage_ioError (s := (s.framed opcode []).passed _ (wrote opcode [] :: waited delay))
      (n := n) (onOk := onOk) (State.passed_script ..)
    exact ⟨u, by rw [query_written hr hw h, hu]⟩

/-! ### The lifecycle state over a query -/

/-- An operation on the state that leaves `LS`. -/
def KeepsLs (f : State → State) : Prop := ∀ u, (f u).ls = u.ls

theorem portCall_keepsLs {c : PortCall} {onError : IoError → State → State}
    {onBytes : List Byte → State → State} (err : ∀ e, KeepsLs (onError e)) (ok : ∀ bs, KeepsLs (onBytes bs)) :
    KeepsLs (portCall c onError onBytes) :=
  fun s => portCall_induct s (fun t => t.ls = s.ls) c onError onBytes (fun _ => rfl) (fun e _ => err e _)
    fun bs _ => ok bs _

theorem raiseTransport_keepsLs (e : IoError) : KeepsLs (raiseTransport e) := fun s => s.raise_ls _

theorem decodeTriplets_keepsLs (ts : List Triplet) (ok : KeepsLs onOk) : KeepsLs (·.decodeTriplets n ts onOk) := by
  intro s
  show (s.decodeTriplets n ts onOk).ls = s.ls
  cases hb : firstBad ts with
  | none => rw [decodeTriplets_ok _ _ _ _ hb]; exact ok _
  | some k => rw [decodeTriplets_bad _ _ _ _ _ hb]; rfl

theorem readStage_keepsLs (ok : KeepsLs onOk) : KeepsLs (·.readStage n onOk) := fun s =>
  portCall_keepsLs (fun e u => raiseTransport_keepsLs e u.dropResponse)
    (fun bs u => decodeTriplets_keepsLs (tripletsOf bs) ok (u.loadResponse n bs)) { s with ph := .read }

theorem writeStage_keepsLs (bytes : List Byte) (ok : KeepsLs onOk) : KeepsLs (·.writeStage bytes onOk) := fun s =>
  portCall_keepsLs raiseTransport_keepsLs (fun _ => ok) { s with ph := .write }

/-- A query leaves `LS` when what follows its decode does, wherever it starts. -/
theorem query_ls (ok : KeepsLs onOk) (h : s.query opcode delay n onOk = .next t) : t.ls = s.ls := by
  have read : KeepsLs fun u => (u.settle delay).readStage n onOk := fun u =>
    (readStage_keepsLs ok (u.settle delay)).trans (u.settle_ls delay)
  obtain ⟨-, rfl⟩ | ⟨-, h⟩ := query_next s opcode delay n onOk t h
  · exact readStage_keepsLs ok s
  · obtain ⟨-, rfl⟩ | ⟨-, bytes, -, rfl⟩ := sendCommand_next s opcode [] _ t h
    · exact writeStage_keepsLs _ read (s.encodeFrame opcode [])
    · exact writeStage_keepsLs bytes read s

/-! ### The guard of the operations valid only in `Measuring` -/

variable {body : State → Result}

theorem whenMeasuring_pass (h : s.ls = .measuring) : s.whenMeasuring body = body s := by
  rw [State.whenMeasuring, h]

theorem whenMeasuring_fail (h : s.ls ≠ .measuring) : s.whenMeasuring body = .next (s.raise .state) := by
  unfold State.whenMeasuring
  split
  · rfl
  · rfl
  · contradiction

/-! ### The poll -/

/-- What follows the poll's decode: the word's boolean is put into `RBOOL`, and the operation returns `Ok`. -/
def State.returnBool (s : State) : State := (s.putBool (boolOfWord s.cfg (s.w.headD 0))).returnOk

theorem returnBool_keepsLs : KeepsLs State.returnBool := fun _ => rfl

/-- The poll's bus transaction: one word, converted by `BOOL_OF_WORD`. -/
def State.pollQuery (s : State) : Result := s.query s.cfg.opcDataReady s.cfg.dlyDataReady 1 State.returnBool

theorem exec_isNewDataAvailable_eq (s : State) :
    exec .isNewDataAvailable s = hostOp .isNewDataAvailable (·.whenMeasuring State.pollQuery) s := by
  have body (u : State) : u.queryThen u.cfg.opcDataReady u.cfg.dlyDataReady Config.boolWords State.packBool =
      u.pollQuery := query_packBool u _ _
  simp only [exec, execIsNewDataAvailable, body]

/-- In `Measuring` the accepted poll is its bus transaction. -/
theorem exec_isNewDataAvailable_measuring (hr : s.ph = .ready) (hm : s.ls = .measuring) :
    exec .isNewDataAvailable s = (s.acceptHost .isNewDataAvailable).pollQuery := by
  rw [exec_isNewDataAvailable_eq, hostOp_ready _ _ _ hr]
  exact whenMeasuring_pass (s := s.acceptHost _) hm

/-- Elsewhere it ends with `StateError`. -/
theorem exec_isNewDataAvailable_stateError (hr : s.ph = .ready) (hm : s.ls ≠ .measuring) :
    exec .isNewDataAvailable s = .next (s.opened .isNewDataAvailable).endedState := by
  rw [exec_isNewDataAvailable_eq, hostOp_ready _ _ _ hr]
  exact whenMeasuring_fail (s := s.acceptHost _) hm

theorem exec_isNewDataAvailable_intact {w : Word} {b : List Byte} (hr : s.ph = .ready) (hm : s.ls = .measuring)
    (h : s.script = some (.ok b) :: some (.ok (responseOf [w])) :: rest) :
    exec .isNewDataAvailable s =
      .next { (((((s.opened .isNewDataAvailable).framed s.cfg.opcDataReady []).received 1 (responseOf [w])).decoded
        [w]).passed rest (queried s.cfg.opcDataReady s.cfg.dlyDataReady 1 (responseOf [w]))).endedOk with
          rbool := some (boolOfWord s.cfg w) } := by
  rw [exec_isNewDataAvailable_measuring hr hm]
  exact query_committed (s := s.acceptHost _) [w] (by simp) (by simp) h

theorem exec_isNewDataAvailable_ioError {e : IoError} (hr : s.ph = .ready) (hm : s.ls = .measuring)
    (h : s.script = some (.ioError e) :: rest ∨ ∃ b, s.script = some (.ok b) :: some (.ioError e) :: rest) :
    ∃ u : State, exec .isNewDataAvailable s = .next (u.raise (.transport e)) := by
  rw [exec_isNewDataAvailable_measuring hr hm]
  exact query_ioError (s := s.acceptHost _) (by simp) (by simp) h

/-- A response of one triplet that fails: index 0 is raised. -/
theorem exec_isNewDataAvailable_corrupt {h l c : Byte} {b : List Byte} (hr : s.ph = .ready) (hm : s.ls = .measuring)
    (hc : checksum h l ≠ c) (hs : s.script = some (.ok b) :: some (.ok [h, l, c]) :: rest) :
    ∃ u : State, exec .isNewDataAvailable s = .next (u.raise (.checksum 0)) := by
  have fails : firstBad (tripletsOf [h, l, c]) = some 0 := by
    simp [tripletsOf, firstBad, Triplet.intact, verify, hc]
  rw [exec_isNewDataAvailable_measuring hr hm]
  exact query_corrupt (s := s.acceptHost _) (by simp) (by simp) rfl fails hs

/-- The poll leaves `LS`, accepted in any lifecycle state or resumed where it was held. -/
theorem exec_isNewDataAvailable_ls (h : exec .isNewDataAvailable s = .next t) : t.ls = s.ls := by
  have body (u : State) (h : u.whenMeasuring State.pollQuery = .next t) : t.ls = u.ls := by
    by_cases hm : u.ls = .measuring
    · rw [whenMeasuring_pass hm] at h
      exact query_ls returnBool_keepsLs h
    · rw [whenMeasuring_fail hm] at h
      cases h
      exact u.raise_ls .state
  rw [exec_isNewDataAvailable_eq] at h
  obtain ⟨-, h⟩ | ⟨-, -, h⟩ := run_next s _ State.acceptHost _ t h
  · exact body (s.acceptHost .isNewDataAvailable) h
  · exact body s h

theorem boolOfWord_suggested (w : Word) : boolOfWord Config.suggested w = true ↔ w ≠ 0x0000 := by
  simp [boolOfWord, Config.suggested]

/-- Settles O27: in `Measuring` the poll is one query of one word, whose four endings are read off its script; the guard
gives the others, and no stage writes `LS`. -/
theorem dataReadyPollReturnsItsBoolean : Obligations.DataReadyPollReturnsItsBoolean := by
  unfold Obligations.DataReadyPollReturnsItsBoolean
  refine ⟨fun _ _ _ _ hr hm h => exec_isNewDataAvailable_intact hr hm h,
    fun _ hr hm => exec_isNewDataAvailable_stateError hr hm, fun s e rest hr hm h => ?_,
    fun s h l c b rest hr hm hc hs => ?_, fun _ _ h => exec_isNewDataAvailable_ls h, boolOfWord_suggested,
    by decide +kernel, by decide +kernel⟩
  · obtain ⟨u, hu⟩ := exec_isNewDataAvailable_ioError hr hm h
    exact ⟨_, hu, u.raise_transport_st e, u.raise_transport_ioErr e, u.raise_rbool _⟩
  · obtain ⟨u, hu⟩ := exec_isNewDataAvailable_corrupt hr hm hc hs
    exact ⟨_, hu, u.raise_checksum_st 0, u.raise_checksum_errIdx 0, u.raise_rbool _⟩

end Sys2Proof.Machine
end

section
/-! TransportError exactly on an IoError (60_exceptions.md rule R151): each host operation's body is one of six shapes,
said once with the guard cell it stands in; a stage ends in TransportError exactly when the last event behind a given
trace is an IoError; and a body that runs makes its first call at once. -/

namespace Sys2Proof.Machine

variable {i : Instr} {s t u : State} {e : IoError} {opcode : Word} {n : Nat} {onOk : State → State}

/-! ### The six shapes of a host operation's body -/

/-- What follows the last answer of a host operation: a `return Ok` that makes no further call. -/
def ReturnsOk (f : State → State) : Prop := ∀ v, (f v).st = .ok ∧ (f v).trace = v.trace

/-- What the body of host operation `i` answers in state `u`: by its cell of the guard table (43_lifecycle.md rule R120)
an error, a no-op success, or the first of its stages that is not yet behind it. -/
inductive HostBody (i : Instr) (u : State) : Result → Prop where
  | stateError (h : guardCell i u.ls = .stateError) : HostBody i u (.next (u.raise .state))
  | noOp (h : guardCell i u.ls = .noOp) : HostBody i u (.next u.returnOk)
  | openPort : HostBody i u (.next u.openStage)
  | address (h : u.ph = .addr) : HostBody i u (.next u.addressStage)
  | command (opcode : Word) (args : List Word) (onOk : State → State) (h : ReturnsOk onOk) :
      HostBody i u (u.sendCommand opcode args onOk)
  | query (opcode : Word) (delay n : Nat) (onOk : State → State) (h : ReturnsOk onOk) :
      HostBody i u (u.query opcode delay n onOk)

section
variable {body : State → Result}

theorem HostBody.whenInitialized (guard : guardCell i .uninitialized = .stateError) (h : HostBody i u (body u)) :
    HostBody i u (u.whenInitialized body) := by
  unfold State.whenInitialized
  split
  next hl => exact .stateError (by rw [hl, guard])
  · exact h
  · exact h

theorem HostBody.whenMeasuring (uninitialized : guardCell i .uninitialized = .stateError)
    (idle : guardCell i .idle = .stateError) (h : HostBody i u (body u)) : HostBody i u (u.whenMeasuring body) := by
  unfold State.whenMeasuring
  split
  next hl => exact .stateError (by rw [hl, uninitialized])
  next hl => exact .stateError (by rw [hl, idle])
  · exact h

end

/-- Every host operation is the envelope around a body of one of the six shapes. -/
theorem exec_hostOp_body (hi : i.isHostOp = true) :
    ∃ body, (∀ s, exec i s = hostOp i body s) ∧ ∀ u, HostBody i u (body u) := by
  cases i with
  | init =>
    refine ⟨_, fun _ => rfl, fun u => ?_⟩
    split
    · split
      next hp => exact .address hp
      · exact .openPort
    next hl => exact .stateError (by rw [hl]; rfl)
    next hl => exact .stateError (by rw [hl]; rfl)
  | reset => exact ⟨_, fun _ => rfl, fun _ => .command _ _ _ fun _ => ⟨rfl, rfl⟩⟩
  | start =>
    refine ⟨_, fun _ => rfl, fun u => ?_⟩
    split
    next hl => exact .stateError (by rw [hl]; rfl)
    · exact .command _ _ _ fun _ => ⟨rfl, rfl⟩
    next hl => exact .noOp (by rw [hl]; rfl)
  | stop =>
    refine ⟨_, fun _ => rfl, fun u => ?_⟩
    split
    next hl => exact .stateError (by rw [hl]; rfl)
    next hl => exact .noOp (by rw [hl]; rfl)
    · exact .command _ _ _ fun _ => ⟨rfl, rfl⟩
  | setAutoCleanInterval =>
    exact ⟨_, fun _ => rfl, fun _ => .whenInitialized rfl (.command _ _ _ fun _ => ⟨rfl, rfl⟩)⟩
  | getSerialNumber | getProductNumber =>
    refine ⟨_, fun _ => rfl, fun _ => .whenInitialized rfl ?_⟩
    rw [query_packString]
    exact .query _ _ _ _ fun _ => ⟨rfl, rfl⟩
  | getAutoCleanInterval =>
    refine ⟨_, fun _ => rfl, fun _ => .whenInitialized rfl ?_⟩
    rw [query_packU32]
    exact .query _ _ _ _ fun _ => ⟨rfl, rfl⟩
  | isNewDataAvailable =>
    refine ⟨_, fun _ => rfl, fun _ => .whenMeasuring rfl rfl ?_⟩
    rw [query_packBool]
    exact .query _ _ _ _ fun _ => ⟨rfl, rfl⟩
  | getMeasurement =>
    refine ⟨_, fun _ => rfl, fun _ => .whenMeasuring rfl rfl ?_⟩
    rw [query_packRecord]
    exact .query _ _ _ _ fun _ => ⟨rfl, rfl⟩
  | _ => cases hi

/-! ### The last event behind a trace -/

/-- `l` is `tr` with events behind it, the last of them a port call answered `a`. -/
def EndsAnswered (tr : List PortEvent) (a : PortAnswer) (l : List PortEvent) : Prop :=
  ∃ es c, l = tr ++ es ++ [.call c a]

variable {tr l : List PortEvent} {a b : PortAnswer}

theorem EndsAnswered.unique (ha : EndsAnswered tr a l) (hb : EndsAnswered tr b l) : a = b := by
  obtain ⟨es, c, rfl⟩ := ha
  obtain ⟨es', c', h⟩ := hb
  have last := (List.append_inj' h rfl).2
  simp only [List.cons.injEq, PortEvent.call.injEq] at last
  exact last.1.2

theorem not_endsAnswered_self : ¬ EndsAnswered tr a tr := by
  rintro ⟨es, c, h⟩
  simpa using congrArg List.length h

theorem EndsAnswered.of_isPrefix (h : tr <+: l) (c : PortCall) (a : PortAnswer) :
    EndsAnswered tr a (l ++ [.call c a]) := by
  obtain ⟨es, rfl⟩ := h
  exact ⟨es, c, rfl⟩

theorem EndsAnswered.isPrefix (h : EndsAnswered tr a l) : tr <+: l := by
  obtain ⟨es, c, rfl⟩ := h
  exact ⟨es ++ [.call c a], (List.append_assoc ..).symm⟩

theorem settle_isPrefix (h : tr <+: u.trace) (us : Nat) : tr <+: (u.settle us).trace := by
  rw [State.settle_trace]
  exact h.trans (List.prefix_append ..)

/-! ### How a stage ends -/

/-- A next state whose events behind `tr` match its status: held at a port call (10_state.md rule R23), raised by the
IoError that is the last event, or ended otherwise with no IoError last. -/
inductive PortEnding (tr : List PortEvent) : State → Prop where
  | held {t : State} (h : t.ph ≠ .ready) : PortEnding tr t
  | failed (u : State) (e : IoError) (h : EndsAnswered tr (.ioError e) u.trace) : PortEnding tr (raiseTransport e u)
  | unfailed {t : State} (hst : t.st ≠ .transportError) (h : ∀ e, ¬ EndsAnswered tr (.ioError e) t.trace) :
      PortEnding tr t

/-- A completed ending is a TransportError exactly when an IoError is the last event. -/
theorem PortEnding.transportError_iff (h : PortEnding tr t) (hr : t.ph = .ready) :
    t.st = .transportError ∧ t.ioErr = some e ↔ EndsAnswered tr (.ioError e) t.trace := by
  cases h with
  | held hn => exact absurd hr hn
  | failed u x hx =>
    constructor
    · rintro ⟨-, he⟩
      cases he
      exact hx
    · intro he
      cases hx.unique he
      exact ⟨rfl, rfl⟩
  | unfailed hst hn => exact ⟨fun h => absurd h.1 hst, fun h => absurd h (hn e)⟩

/-- With no event behind `tr`, an ending that is no TransportError matches. -/
theorem PortEnding.of_trace_eq (hst : t.st ≠ .transportError) (h : t.trace = tr) : PortEnding tr t :=
  .unfailed hst fun _ => h ▸ not_endsAnswered_self

/-- With an `Ok` as the last event, an ending that is no TransportError matches. -/
theorem PortEnding.of_answeredOk {bs : List Byte} (hst : t.st ≠ .transportError)
    (h : EndsAnswered tr (.ok bs) t.trace) : PortEnding tr t :=
  .unfailed hst fun _ he => PortAnswer.noConfusion (h.unique he)

/-- What follows an answer of the port ends as its events say, when the last of them was an `Ok`. -/
def EndsAfterOk (tr : List PortEvent) (f : State → State) : Prop :=
  ∀ v bs, EndsAnswered tr (.ok bs) v.trace → PortEnding tr (f v)

theorem ReturnsOk.endsAfterOk (h : ReturnsOk onOk) : EndsAfterOk tr onOk := by
  intro v bs hv
  obtain ⟨hst, htr⟩ := h v
  exact .of_answeredOk (by simp [hst]) (htr ▸ hv)

/-- One port call made outside `PH = Ready`: it is held, or its answer becomes the last event. -/
theorem portCall_portEnding {c : PortCall} {onError : IoError → State → State} {onBytes : List Byte → State → State}
    (hs : s.ph ≠ .ready) (htr : tr <+: s.trace)
    (err : ∀ e v, EndsAnswered tr (.ioError e) v.trace → PortEnding tr (onError e v))
    (ok : ∀ bs, EndsAfterOk tr (onBytes bs)) : PortEnding tr (portCall c onError onBytes s) :=
  portCall_induct s (PortEnding tr) c onError onBytes (fun _ => .held hs)
    (fun e _ => err e _ (.of_isPrefix htr c _)) fun bs _ => ok bs _ bs (.of_isPrefix htr c _)

theorem writeStage_portEnding (htr : tr <+: s.trace) (bytes : List Byte) (ok : EndsAfterOk tr onOk) :
    PortEnding tr (s.writeStage bytes onOk) :=
  portCall_portEnding (by simp) htr (fun e v => .failed v e) fun _ => ok

theorem decodeTriplets_endsAfterOk (ts : List Triplet) (ok : EndsAfterOk tr onOk) :
    EndsAfterOk tr (·.decodeTriplets n ts onOk) := by
  intro v bs hv
  show PortEnding tr (v.decodeTriplets n ts onOk)
  cases hb : firstBad ts with
  | none => rw [decodeTriplets_ok _ _ _ _ hb]; exact ok _ bs hv
  | some k => rw [decodeTriplets_bad _ _ _ _ _ hb]; exact .of_answeredOk (by simp) hv

theorem readStage_portEnding (htr : tr <+: s.trace) (ok : EndsAfterOk tr onOk) : PortEnding tr (s.readStage n onOk) :=
  portCall_portEnding (by simp) htr (fun e v => .failed v.dropResponse e)
    fun bs v => decodeTriplets_endsAfterOk (tripletsOf bs) ok (v.loadResponse n bs)

theorem addressStage_portEnding (htr : tr <+: s.trace) : PortEnding tr s.addressStage :=
  portCall_portEnding (by simp) htr (fun e v => .failed v e) fun _ => ReturnsOk.endsAfterOk fun _ => ⟨rfl, rfl⟩

theorem openStage_portEnding (htr : tr <+: s.trace) : PortEnding tr s.openStage :=
  portCall_portEnding (by simp) htr (fun e v => .failed v e) fun _ _ _ h => addressStage_portEnding h.isPrefix

theorem sendCommand_portEnding {args : List Word} (ok : EndsAfterOk s.trace onOk)
    (h : s.sendCommand opcode args onOk = .next t) : PortEnding s.trace t := by
  obtain ⟨-, rfl⟩ | ⟨-, bytes, -, rfl⟩ := sendCommand_next s opcode args onOk t h
  · exact writeStage_portEnding (s := s.encodeFrame opcode args) (List.prefix_refl _) _ ok
  · exact writeStage_portEnding (List.prefix_refl _) bytes ok

theorem query_portEnding {delay : Nat} (ok : EndsAfterOk s.trace onOk) (h : s.query opcode delay n onOk = .next t) :
    PortEnding s.trace t := by
  obtain ⟨-, rfl⟩ | ⟨-, h⟩ := query_next s opcode delay n onOk t h
  · exact readStage_portEnding (List.prefix_refl _) ok
  · exact sendCommand_portEnding (fun _ _ hv => readStage_portEnding (settle_isPrefix hv.isPrefix delay) ok) h

/-- Every next state of a host operation's body ends as the events it caused say. -/
theorem HostBody.portEnding {r : Result} (h : HostBody i u r) (hn : r = .next t) : PortEnding u.trace t := by
  cases h with
  | stateError => cases hn; exact .of_trace_eq (by simp) (u.raise_trace _)
  | noOp => cases hn; exact .of_trace_eq (by simp) u.returnOk_trace
  | openPort => cases hn; exact openStage_portEnding (List.prefix_refl _)
  | address => cases hn; exact addressStage_portEnding (List.prefix_refl _)
  | command _ _ _ ok => exact sendCommand_portEnding ok.endsAfterOk hn
  | query _ _ _ _ ok => exact query_portEnding ok.endsAfterOk hn

/-- The envelope causes no event, so the same holds of the operation, accepted or resumed. -/
theorem exec_hostOp_portEnding (hi : i.isHostOp = true) (h : exec i s = .next t) : PortEnding s.trace t := by
  obtain ⟨body, envelope, shape⟩ := exec_hostOp_body hi
  rw [envelope] at h
  obtain ⟨-, h⟩ | ⟨-, -, h⟩ := run_next s i State.acceptHost body t h
  · exact (shape (s.acceptHost i)).portEnding h
  · exact (shape s).portEnding h

/-! ### The first call fails -/

variable {rest : List (Option PortAnswer)}

/-- A failed write raises the port's error where the stage began, so `LS` stands. -/
theorem writeStage_ioError_ls (bytes : List Byte) (h : s.script = some (.ioError e) :: rest) :
    ∃ v : State, s.writeStage bytes onOk = v.raise (.transport e) ∧ v.ls = s.ls :=
  ⟨_, portCall_ioError (s := { s with ph := .write }) h, rfl⟩

/-- In a run cell an accepted body makes a port call at once; if that fails, its error is raised and `LS` stands. -/
theorem HostBody.firstCall_ioError {r : Result} (h : HostBody i u r) (hp : u.ph = .guard)
    (run : guardCell i u.ls = .run) (hs : u.script = some (.ioError e) :: rest) :
    ∃ v : State, r = .next (v.raise (.transport e)) ∧ v.ls = u.ls := by
  cases h with
  | stateError hc => simp [hc] at run
  | noOp hc => simp [hc] at run
  | address ha => simp [ha] at hp
  | openPort => exact ⟨_, congrArg _ (portCall_ioError (s := { u with ph := .openPort }) hs), rfl⟩
  | command opcode args onOk =>
    obtain ⟨v, hv, ls⟩ := writeStage_ioError_ls (s := u.encodeFrame opcode args) (onOk := onOk) (frameOf opcode args) hs
    exact ⟨v, by rw [sendCommand_fresh _ _ _ _ (by simp [hp]), hv], ls⟩
  | query opcode delay n onOk =>
    obtain ⟨v, hv, ls⟩ := writeStage_ioError_ls (s := u.encodeFrame opcode [])
      (onOk := fun s => (s.settle delay).readStage n onOk) (frameOf opcode []) hs
    exact ⟨v, by rw [query_fresh _ _ _ _ _ (by simp [hp]) (by simp [hp]), hv], ls⟩

theorem exec_hostOp_firstCall_ioError (hr : s.ph = .ready) (hi : i.isHostOp = true) (run : guardCell i s.ls = .run)
    (hs : s.script = some (.ioError e) :: rest) :
    ∃ v : State, exec i s = .next (v.raise (.transport e)) ∧ v.ls = s.ls := by
  obtain ⟨body, envelope, shape⟩ := exec_hostOp_body hi
  rw [envelope, hostOp_ready _ _ _ hr]
  exact (shape (s.acceptHost i)).firstCall_ioError (s.acceptHost_ph i) run hs

/-- Settles O53: a completed host operation ends as the events it caused say, and in a run cell its first call can
fail. -/
theorem transportErrorExactlyOnIoError : Obligations.TransportErrorExactlyOnIoError := by
  unfold Obligations.TransportErrorExactlyOnIoError
  refine ⟨fun i s t e hi h hr => (exec_hostOp_portEnding hi h).transportError_iff hr,
    fun i s e rest hr hi run hs => ?_⟩
  obtain ⟨v, hv, ls⟩ := exec_hostOp_firstCall_ioError hr hi run hs
  exact ⟨_, hv, v.raise_transport_st e, v.raise_transport_ioErr e, (v.raise_ls _).trans ls, v.raise_ph _⟩

end Sys2Proof.Machine
end

section
/-! Decoding and encoding are inverse (30_encoding.md rules R60, R67, R68): the operands first, then one lemma per shape of
request. -/

namespace Sys2Proof

variable {cfg : Config} {i : Instr}

/-! ### Operands of unit operations -/

theorem byteOperand_eq_some {n : Nat} {b : Byte} : byteOperand n = some b ↔ b.toNat = n := by
  constructor
  · intro h
    unfold byteOperand at h
    split at h
    next hn => cases h; exact Nat.mod_eq_of_lt hn
    · cases h
  · rintro rfl
    simp [byteOperand, b.isLt]

theorem wordOperand_eq_some {n : Nat} {w : Word} : wordOperand n = some w ↔ w.toNat = n := by
  constructor
  · intro h
    unfold wordOperand at h
    split at h
    next hn => cases h; exact Nat.mod_eq_of_lt hn
    · cases h
  · rintro rfl
    simp [wordOperand, w.isLt]

@[simp] theorem byteOperand_toNat (b : Byte) : byteOperand b.toNat = some b := byteOperand_eq_some.2 rfl

@[simp] theorem wordOperand_toNat (w : Word) : wordOperand w.toNat = some w := wordOperand_eq_some.2 rfl

@[simp] theorem wordOperands_toNat (ws : List Word) : wordOperands (ws.map BitVec.toNat) = some ws := by
  induction ws with
  | nil => rfl
  | cons w ws ih => simp [wordOperands, ih]

theorem wordOperands_eq_some {ns : List Nat} {ws : List Word} :
    wordOperands ns = some ws ↔ ws.map BitVec.toNat = ns := by
  constructor
  · intro h
    induction ns generalizing ws with
    | nil => cases h; rfl
    | cons n ns ih =>
      unfold wordOperands at h
      split at h
      next w vs hw hvs => cases h; simp [wordOperand_eq_some.1 hw, ih hvs]
      · cases h
  · rintro rfl
    exact wordOperands_toNat ws

/-! ### Unit operations -/

theorem decodeUnit_eq_ok {opid : BitVec 5} {ops : List Nat} (h : decodeUnit opid ops = .ok i) :
    unitInstr? opid ops = some i := by
  unfold decodeUnit at h
  split at h
  · split at h
    next hi => cases h; exact hi
    · cases h
  · cases h

/-- The operands that a row of the unit operations accepts are the ones the encoder writes out. -/
theorem encode_of_unitInstr? {opid : BitVec 5} {ops : List Nat} (h : unitInstr? opid ops = some i) :
    encode cfg i = .unitOp opid ops := by
  unfold unitInstr? at h
  split_ifs at h <;> subst opid <;> split at h <;>
    simp only [Option.pure_def, Option.bind_eq_bind, Option.bind_eq_some_iff, byteOperand_eq_some, wordOperand_eq_some,
      wordOperands_eq_some, Option.some.injEq, reduceCtorEq] at h
  · obtain ⟨b0, rfl, b1, rfl, ⟨⟩⟩ := h; rfl
  · obtain ⟨b0, rfl, b1, rfl, c, rfl, ⟨⟩⟩ := h; rfl
  · obtain ⟨opcode, rfl, args, rfl, ⟨⟩⟩ := h; rfl
  · cases h; rfl
  · obtain ⟨opcode, rfl, ⟨⟩⟩ := h; rfl
  · obtain ⟨opcode, rfl, words, rfl, ⟨⟩⟩ := h; rfl
  · obtain ⟨opcode, rfl, ⟨⟩⟩ := h; rfl
  · obtain ⟨opcode, rfl, ⟨⟩⟩ := h; rfl

/-! ### Host requests -/

/-- `ARG32` is read by set_auto_clean_interval only. -/
theorem decodeHost_arg {opid : BitVec 5} (arg : DWord) (h : opid ≠ 0x09) : decodeHost opid arg = decodeHost opid 0 := by
  unfold decodeHost
  rw [if_neg h, if_neg h]

theorem decodeHost_reserved0A0B (k : BitVec 1) (arg : DWord) :
    decodeHost ((0x5 : BitVec 4) ++ k) arg = .ok (.reserved0A0B k) := by
  rw [decodeHost_arg arg (by revert k; decide)]
  revert k; decide

theorem decodeHost_reserved0C0F (k : BitVec 2) (arg : DWord) :
    decodeHost ((0x3 : BitVec 3) ++ k) arg = .ok (.reserved0C0F k) := by
  rw [decodeHost_arg arg (by revert k; decide)]
  revert k; decide

theorem decodeHost_reserved181F (k : BitVec 3) (arg : DWord) :
    decodeHost ((0x3 : BitVec 2) ++ k) arg = .ok (.reserved181F k) := by
  rw [decodeHost_arg arg (by revert k; decide)]
  revert k; decide

/-- A reserved OPID is put together again from the bits of its row and its free ones. -/
theorem opid_of_reservedBits :
    (∀ opid : BitVec 5, opid.extractLsb' 1 4 = 0x5 → (0x5 : BitVec 4) ++ opid.extractLsb' 0 1 = opid) ∧
    (∀ opid : BitVec 5, opid.extractLsb' 2 3 = 0x3 → (0x3 : BitVec 3) ++ opid.extractLsb' 0 2 = opid) ∧
    (∀ opid : BitVec 5, opid.extractLsb' 3 2 = 0x3 → (0x3 : BitVec 2) ++ opid.extractLsb' 0 3 = opid) := by
  decide

/-- A host request is what its operation encodes to, but for an `ARG32` that the operation ignores. -/
theorem encode_of_decodeHost {opid : BitVec 5} {arg : DWord} (h : decodeHost opid arg = .ok i) :
    encode cfg i = .host opid (if opid = 0x09 then arg else 0) := by
  obtain ⟨bits0A0B, bits0C0F, bits181F⟩ := opid_of_reservedBits
  iterate 10
    obtain ⟨ho, h⟩ | ⟨ho, h⟩ := ite_eq_iff.1 h
    · subst ho; cases h; rfl
  rw [if_neg ho]
  obtain ⟨hb, h⟩ | ⟨-, h⟩ := ite_eq_iff.1 h
  · cases h; exact congrArg (Request.host · 0) (bits0A0B opid hb)
  obtain ⟨hb, h⟩ | ⟨-, h⟩ := ite_eq_iff.1 h
  · cases h; exact congrArg (Request.host · 0) (bits0C0F opid hb)
  obtain ⟨hb, h⟩ | ⟨-, h⟩ := ite_eq_iff.1 h
  · cases h; exact congrArg (Request.host · 0) (bits181F opid hb)
  · cases h

/-! ### Bus frames -/

theorem encode_of_decodeCmd0 {opcode : Word} (h : decodeCmd0 cfg opcode = .ok i) :
    encode cfg i = .frame (opcodeBytes opcode) := by
  unfold decodeCmd0 at h
  split_ifs at h <;> cases h <;> subst opcode <;> rfl

/-- With the opcodes of its row different, each is told from those before it. -/
theorem decodeCmd0_of_nodup (h : cfg.cmd0Opcodes.Nodup) :
    decodeCmd0 cfg cfg.opcReset = .ok .busReset ∧ decodeCmd0 cfg cfg.opcSerial = .ok .busGetSerialNumber ∧
    decodeCmd0 cfg cfg.opcProduct = .ok .busGetProductNumber ∧ decodeCmd0 cfg cfg.opcStop = .ok .busStop ∧
    decodeCmd0 cfg cfg.opcDataReady = .ok .busIsNewDataAvailable ∧
    decodeCmd0 cfg cfg.opcReadMeas = .ok .busGetMeasurement ∧
    decodeCmd0 cfg cfg.opcAutoclean = .ok .busGetAutoCleanInterval := by
  simp only [Config.cmd0Opcodes, List.nodup_cons, List.mem_cons, List.not_mem_nil, or_false, not_or] at h
  simp [decodeCmd0, h, eq_comm]

@[simp] theorem opcodeBytes_catBytes (h l : Byte) : opcodeBytes (catBytes h l) = [h, l] := by simp [opcodeBytes]

@[simp] theorem argBytes_catBytes (h l c : Byte) : argBytes (catBytes h l) c = [h, l, c] := by simp [argBytes]

theorem encode_of_decodeFrame {bytes : List Byte} (h : decodeFrame cfg bytes = .ok i) :
    encode cfg i = .frame bytes := by
  unfold decodeFrame at h
  split at h
  · rw [encode_of_decodeCmd0 h, opcodeBytes_catBytes]
  · split at h
    next ho => cases h; simp [encode, ← ho]
    · cases h
  · split at h
    next ho => cases h; simp [encode, ← ho]
    · cases h
  · cases h

/-! ### The two round trips -/

/-- Settles O37: each operand is read back from the number it is written as, each reserved OPID from its row's bits, and
each bus opcode is told from those before it. -/
theorem decodeOfEncodeIsTheInstruction : Obligations.DecodeOfEncodeIsTheInstruction := by
  unfold Obligations.DecodeOfEncodeIsTheInstruction
  intro cfg i hn
  obtain ⟨reset, serial, product, stop, dataReady, readMeas, autoclean⟩ := decodeCmd0_of_nodup hn
  cases i with
  | reserved0A0B k => exact decodeHost_reserved0A0B k 0
  | reserved0C0F k => exact decodeHost_reserved0C0F k 0
  | reserved181F k => exact decodeHost_reserved181F k 0
  | generateChecksum | verifyChecksum | encode | decode | writeCommand | writeCommandWithArgs | readDelayed
  | readCommand => simp [encode, decode, decodeUnit, unitInstr?, isUnitOpid]
  | busReset | busGetSerialNumber | busGetProductNumber | busStart | busStop | busIsNewDataAvailable
  | busGetMeasurement | busGetAutoCleanInterval | busSetAutoCleanInterval =>
    simp [encode, decode, decodeFrame, opcodeBytes, argBytes, *]
  | _ => rfl

/-- Settles O38, one shape of request after the other. -/
theorem encodeOfDecodeIsTheRequest : Obligations.EncodeOfDecodeIsTheRequest := by
  unfold Obligations.EncodeOfDecodeIsTheRequest
  exact ⟨fun _ _ _ h => encode_of_decodeFrame h, fun _ _ _ _ h => encode_of_unitInstr? (decodeUnit_eq_ok h),
    fun _ _ _ _ h => encode_of_decodeHost h⟩

end Sys2Proof
end

section
/-! The checksum as a linear map (40_checksum.md rules R82 to R85): the shift step is linear over GF(2) and invertible, so
the checksum of two bytes is a constant XORed with one term per byte, and each rule is a fact about these terms. -/

namespace Sys2Proof

/-! ### The shift step is linear -/

/-- What bit 7 XORs into the shifted register. -/
def crcFeedback (bit7 : Bool) : Byte := if bit7 then Config.crcPoly else 0#8

theorem crcShift_eq (c : Byte) : crcShift c = (c <<< 1) ^^^ crcFeedback c.msb := by
  unfold crcShift crcFeedback
  split
  · rfl
  · exact (BitVec.xor_zero ..).symm

theorem crcFeedback_xor : ∀ a b : Bool, crcFeedback (a ^^ b) = crcFeedback a ^^^ crcFeedback b := by decide

theorem crcShift_xor (a b : Byte) : crcShift (a ^^^ b) = crcShift a ^^^ crcShift b := by
  simp only [crcShift_eq, BitVec.msb_xor, crcFeedback_xor, BitVec.shiftLeft_xor_distrib]
  ac_rfl

theorem crcShift8_xor (a b : Byte) : crcShift8 (a ^^^ b) = crcShift8 a ^^^ crcShift8 b := by
  simp only [crcShift8, crcShift_xor]

/-- No register but 0 is shifted out to 0. -/
theorem crcShift8_eq_zero : ∀ a : Byte, crcShift8 a = 0#8 ↔ a = 0#8 := by decide +kernel

theorem crcShift8_injective : Function.Injective crcShift8 := by
  intro a b h
  have : crcShift8 (a ^^^ b) = 0#8 := by rw [crcShift8_xor, h, BitVec.xor_self]
  exact BitVec.xor_eq_zero_iff.1 ((crcShift8_eq_zero _).1 this)

theorem crcShift8_bijective : Function.Bijective crcShift8 := Finite.injective_iff_bijective.1 crcShift8_injective

theorem crcByte_eq (c b : Byte) : crcByte c b = crcShift8 c ^^^ crcShift8 b := crcShift8_xor c b

/-- What the two data bytes contribute to their checksum. -/
def checksumTerm (b0 b1 : Byte) : Byte := crcShift8 (crcShift8 b0) ^^^ crcShift8 b1

theorem checksumTerm_xor (x0 x1 y0 y1 : Byte) :
    checksumTerm (x0 ^^^ y0) (x1 ^^^ y1) = checksumTerm x0 x1 ^^^ checksumTerm y0 y1 := by
  simp only [checksumTerm, crcShift8_xor]
  ac_rfl

@[simp] theorem crcShift8_zero : crcShift8 0#8 = 0#8 := (crcShift8_eq_zero _).2 rfl

@[simp] theorem checksumTerm_zero_left (b : Byte) : checksumTerm 0#8 b = crcShift8 b := by simp [checksumTerm]

@[simp] theorem checksumTerm_zero_right (b : Byte) : checksumTerm b 0#8 = crcShift8 (crcShift8 b) := by
  simp [checksumTerm]

/-- The checksum is linear but for the constant that the initial register leaves. -/
theorem checksum_eq (b0 b1 : Byte) : checksum b0 b1 = 0x81#8 ^^^ checksumTerm b0 b1 := by
  have initial : crcShift8 (crcShift8 Config.crcInit) = 0x81#8 := by decide +kernel
  rw [checksum, crcByte_eq, crcByte_eq, crcShift8_xor, initial, BitVec.xor_assoc, checksumTerm]

/-- Flipping bits of the data flips their own term in the checksum. -/
theorem checksum_flip (b0 b1 e0 e1 : Byte) :
    checksum (b0 ^^^ e0) (b1 ^^^ e1) = checksum b0 b1 ^^^ checksumTerm e0 e1 := by
  rw [checksum_eq, checksumTerm_xor, ← BitVec.xor_assoc, ← checksum_eq]

/-- Settles O5, from the linear form of the checksum. -/
theorem checksumIsAffine : Obligations.ChecksumIsAffine := by
  unfold Obligations.ChecksumIsAffine
  have zero : checksum 0x00 0x00 = 0x81#8 := by decide +kernel
  refine ⟨fun x0 x1 y0 y1 => ?_, zero⟩
  rw [checksum_flip, checksum_eq y0, zero, BitVec.xor_assoc, BitVec.xor_comm (0x81#8 ^^^ _), ← BitVec.xor_assoc (0x81#8),
    BitVec.xor_self, BitVec.zero_xor]

/-! ### One value of each byte for every checksum -/

theorem exists_unique_preimage {f : Byte → Byte} (hf : Function.Bijective f) (c : Byte) : ∃ b, ∀ x, (f x = c ↔ x = b) := by
  obtain ⟨b, rfl⟩ := hf.2 c
  exact ⟨b, fun x => hf.1.eq_iff⟩

theorem xor_left_bijective (a : Byte) : Function.Bijective (a ^^^ ·) := 
  Finite.injective_iff_bijective.1 fun _ _ => (BitVec.xor_right_inj a).1

theorem xor_right_bijective (a : Byte) : Function.Bijective (· ^^^ a) := 
  Finite.injective_iff_bijective.1 fun _ _ => (BitVec.xor_left_inj a).1

/-- Settles O7: with one byte fixed the checksum is a bijection of the other. -/
theorem everyChecksumValueIsTakenOncePerByte : Obligations.EveryChecksumValueIsTakenOncePerByte := by
  unfold Obligations.EveryChecksumValueIsTakenOncePerByte
  have byte (a : Byte) : Function.Bijective (crcByte a) := crcShift8_bijective.comp (xor_left_bijective a)
  have register (b : Byte) : Function.Bijective (crcByte · b) := crcShift8_bijective.comp (xor_right_bijective b)
  exact ⟨fun b0 c => exists_unique_preimage (byte _) c,
    fun b1 c => exists_unique_preimage ((register b1).comp (byte _)) c⟩

/-! ### The bit-serial register -/

/-- One step of the bit-serial register is the shift step with the input bit XORed into bit 7. -/
theorem lfsrBit_xor (a c : Byte) (d : Bool) : lfsrBit (a ^^^ c) d = crcShift a ^^^ lfsrBit c d := by
  have feedback (c : Byte) : lfsrBit c d = (c <<< 1) ^^^ crcFeedback (c.msb ^^ d) := by
    unfold lfsrBit crcFeedback
    rw [show c.msb = c.getLsbD 7 from rfl]
    split
    · rfl
    · exact (BitVec.xor_zero ..).symm
  simp only [feedback, crcShift_eq, BitVec.msb_xor, crcFeedback_xor, BitVec.shiftLeft_xor_distrib]
  ac_rfl

theorem foldl_lfsrBit_xor (a c : Byte) (bits : List Bool) :
    bits.foldl lfsrBit (a ^^^ c) = crcShift^[bits.length] a ^^^ bits.foldl lfsrBit c := by
  induction bits generalizing a c with
  | nil => rfl
  | cons d bits ih => rw [List.foldl_cons, lfsrBit_xor, ih]; rfl

/-- The bits of one byte, shifted in one after the other, do what the byte does at once. -/
theorem foldl_lfsrBit_byte (c b : Byte) : (bitsMsbFirst b).foldl lfsrBit c = crcByte c b := by
  have fromZero : ∀ b, (bitsMsbFirst b).foldl lfsrBit 0#8 = crcShift8 b := by decide +kernel
  have h := foldl_lfsrBit_xor c 0#8 (bitsMsbFirst b)
  rw [BitVec.xor_zero, fromZero] at h
  exact h.trans (crcByte_eq c b).symm

/-- Settles O3: byte by byte for the fold, and by evaluation of the 512 steps for the gate equations. -/
theorem checksumEqualsBitSerialRegister : Obligations.ChecksumEqualsBitSerialRegister := by
  unfold Obligations.ChecksumEqualsBitSerialRegister
  refine ⟨fun b0 b1 => ?_, by decide +kernel⟩
  rw [List.foldl_append, foldl_lfsrBit_byte, foldl_lfsrBit_byte]
  rfl

/-! ### The table -/

theorem crcTableAt_eq : ∀ x : Byte, crcTableAt x = crcShift8 x := by decide +kernel

/-- Settles O4: entry `x` of the printed table is eight shift steps from `x`. -/
theorem checksumEqualsTableLookup : Obligations.ChecksumEqualsTableLookup := by
  unfold Obligations.ChecksumEqualsTableLookup
  intro b0 b1
  rw [crcTableAt_eq, crcTableAt_eq]
  rfl

/-! ### Comparing with a given checksum -/

theorem verify_iff (b0 b1 c : Byte) : verify b0 b1 c = true ↔ checksum b0 b1 = c := beq_iff_eq

theorem crcByte_eq_zero (c b : Byte) : crcByte c b = 0#8 ↔ c = b :=
  (crcShift8_eq_zero _).trans BitVec.xor_eq_zero_iff

end Sys2Proof

namespace Sys2Proof.Machine

/-! ### Flipped bits -/

theorem countP_xor_mod_two (p q : Nat → Bool) (l : List Nat) :
    l.countP (fun k => p k ^^ q k) % 2 = (l.countP p + l.countP q) % 2 := by
  induction l with
  | nil => rfl
  | cons k l ih =>
    simp only [List.countP_cons]
    cases p k <;> cases q k <;> simp <;> omega

theorem bitCount_xor_mod_two (a b : Byte) : bitCount (a ^^^ b) % 2 = (bitCount a + bitCount b) % 2 := by
  simp only [bitCount, BitVec.getLsbD_xor, countP_xor_mod_two]

/-- The polynomial has an even number of terms, so a shift keeps the parity. -/
theorem bitCount_crcShift8_mod_two : ∀ a : Byte, bitCount (crcShift8 a) % 2 = bitCount a % 2 := by decide +kernel

theorem bitCount_eq_zero : ∀ a : Byte, bitCount a = 0 → a = 0#8 := by decide +kernel

/-- No two flipped bits in neighbouring bytes cancel. -/
theorem bitCount_add_crcShift8_ne_two : ∀ a : Byte, bitCount a + bitCount (crcShift8 a) ≠ 2 := by decide +kernel

/-- Nor in bytes one apart. -/
theorem bitCount_add_crcShift8_crcShift8_ne_two : ∀ a : Byte, bitCount a + bitCount (crcShift8 (crcShift8 a)) ≠ 2 := by
  decide +kernel

/-- Flipped bits that leave a triplet verifying are none, or at least four: their number is even, and of two flipped bits
some byte holds none. -/
theorem bitCount_of_undetected (e0 e1 : Byte)
    (h : bitCount e0 + bitCount e1 + bitCount (checksumTerm e0 e1) ≤ 3) :
    bitCount e0 + bitCount e1 + bitCount (checksumTerm e0 e1) = 0 := by
  have even : (bitCount e0 + bitCount e1 + bitCount (checksumTerm e0 e1)) % 2 = 0 := by
    have := bitCount_xor_mod_two (crcShift8 (crcShift8 e0)) (crcShift8 e1)
    have := bitCount_crcShift8_mod_two e1
    have := bitCount_crcShift8_mod_two (crcShift8 e0)
    have := bitCount_crcShift8_mod_two e0
    unfold checksumTerm
    omega
  by_contra hne
  have two : bitCount e0 + bitCount e1 + bitCount (checksumTerm e0 e1) = 2 := by omega
  obtain h0 | h1 | h2 : bitCount e0 = 0 ∨ bitCount e1 = 0 ∨ bitCount (checksumTerm e0 e1) = 0 := by omega
  · obtain rfl := bitCount_eq_zero e0 h0
    rw [h0, checksumTerm_zero_left, Nat.zero_add] at two
    exact bitCount_add_crcShift8_ne_two e1 two
  · obtain rfl := bitCount_eq_zero e1 h1
    rw [h1, checksumTerm_zero_right] at two
    exact bitCount_add_crcShift8_crcShift8_ne_two e0 two
  · obtain rfl := crcShift8_injective (BitVec.xor_eq_zero_iff.1 (bitCount_eq_zero _ h2))
    rw [h2] at two
    exact bitCount_add_crcShift8_ne_two e0 two

/-- Settles O6: flips that are not detected flip the checksum byte by the data's own term. -/
theorem checksumDetectsUpToThreeFlippedBits : Obligations.ChecksumDetectsUpToThreeFlippedBits := by
  unfold Obligations.ChecksumDetectsUpToThreeFlippedBits
  refine ⟨fun b0 b1 => (verify_iff ..).2 rfl, fun b0 b1 c e0 e1 e2 hv h1 h3 => ?_, by decide +kernel, by decide +kernel⟩
  rw [Bool.eq_false_iff, Ne, verify_iff, checksum_flip, (verify_iff ..).1 hv, BitVec.xor_right_inj]
  rintro rfl
  have := bitCount_of_undetected e0 e1 h3
  omega

/-! ### The two operations of the engine -/

/-- Settles O1. -/
theorem generateChecksumLeavesItInCrc : Obligations.GenerateChecksumLeavesItInCrc := by
  unfold Obligations.GenerateChecksumLeavesItInCrc
  refine ⟨fun b0 b1 s h => ?_, by decide +kernel⟩
  rw [exec, execGenerateChecksum, unitOp_ready _ _ _ h]
  rfl

/-- Settles O2. -/
theorem verifyChecksumComparesWithGenerated : Obligations.VerifyChecksumComparesWithGenerated := by
  unfold Obligations.VerifyChecksumComparesWithGenerated
  refine ⟨fun b0 b1 c s h => ?_, fun b0 b1 => ⟨_, fun _ => eq_comm⟩, fun _ _ => crcByte_eq_zero _,
    by decide +kernel⟩
  rw [exec, execVerifyChecksum, unitOp_ready _ _ _ h]
  rfl

end Sys2Proof.Machine
end

section
/-! Every operation that makes port calls is one shape: acceptance, the guard, the preconditions of its operands, and the
calls of its row of the exchange table (43_lifecycle.md rules R120 and R132, 42_executor.md rules R100 to R103,
30_encoding.md rule R67). The machine's arms are shown to be that shape once; what they do is then said of the shape. -/

namespace Sys2Proof.Machine

variable {i : Instr} {s t u v : State}

/-! ### The shape -/

/-- The operation makes port calls: init, and every operation with an exchange. -/
def Transacts (cfg : Config) (i : Instr) : Prop := i = .init ∨ exchangeOf cfg i ≠ .none

/-- Acceptance of any operation: a host operation has an envelope (43_lifecycle.md rule R132), the others have none. -/
def State.accept (s : State) (i : Instr) : State := if i.isHostOp then s.acceptHost i else s.acceptUnit i

/-- What operation `i` does when its last call has been answered well, its words committed if it reads any. -/
def State.finish (i : Instr) (s : State) : State :=
  match i with
  | .init | .stop => ({ s with ls := .idle } : State).returnOk
  | .start => ({ s with ls := .measuring } : State).returnOk
  | .reset | .setAutoCleanInterval _ => s.returnOk
  | .getSerialNumber | .getProductNumber => (s.putString (beforeNul (bytesOfWords s.w))).returnOk
  | .isNewDataAvailable => s.returnBool
  | .getMeasurement => (s.putRecord (recordOfWords s.w)).returnOk
  | .getAutoCleanInterval => (s.putU32 (catWords (s.w.getD 0 0) (s.w.getD 1 0))).returnOk
  | _ => s.returnUnit .ok

/-- The calls of operation `i`, from the first one that is not yet behind it. -/
def State.calls (i : Instr) (s : State) : Result :=
  match exchangeOf s.cfg i with
  | .none => .next (if s.ph = .addr then s.addressStage else s.openStage)
  | .command opcode args => s.sendCommand opcode args (State.finish i)
  | .query opcode delay n => s.query opcode delay n (State.finish i)

/-- Why an operation is refused whose operands do not meet their preconditions (20_memory.md rule R54, 30_encoding.md
rule R60). -/
def malformed (i : Instr) : Refusal :=
  match i with
  | .writeCommandWithArgs _ words => .overCapacity words.length
  | .readDelayed _ _ n | .readCommand _ n => .overCapacity n
  | _ => .badFrame

/-- The body of an operation that makes port calls: its guard, its preconditions, its calls. -/
def State.transact (i : Instr) (s : State) : Result :=
  match guardCell i s.ls with
  | .stateError => .next (s.raise .state)
  | .noOp => .next s.returnOk
  | .run => if i.wellFormed s.cfg = true then s.calls i else .refused (malformed i)

theorem transact_stateError (h : guardCell i s.ls = .stateError) : s.transact i = .next (s.raise .state) := by
  rw [State.transact, h]

theorem transact_noOp (h : guardCell i s.ls = .noOp) : s.transact i = .next s.returnOk := by
  rw [State.transact, h]

theorem transact_run (h : guardCell i s.ls = .run) (hw : i.wellFormed s.cfg = true) : s.transact i = s.calls i := by
  rw [State.transact, h]
  exact if_pos hw

theorem transact_malformed (h : guardCell i s.ls = .run) (hw : ¬ i.wellFormed s.cfg = true) :
    s.transact i = .refused (malformed i) := by
  rw [State.transact, h]
  exact if_neg hw

/-! ### Every arm is that shape -/

theorem transact_eq_whenInitialized {body : State → Result} (hw : i.wellFormed s.cfg = true)
    (hu : guardCell i .uninitialized = .stateError) (hi : guardCell i .idle = .run) (hm : guardCell i .measuring = .run)
    (hb : body s = s.calls i) : s.whenInitialized body = s.transact i := by
  unfold State.whenInitialized
  split
  next hl => rw [transact_stateError (by rw [hl, hu])]
  next hl => rw [transact_run (by rw [hl, hi]) hw, hb]
  next hl => rw [transact_run (by rw [hl, hm]) hw, hb]

theorem transact_eq_whenMeasuring {body : State → Result} (hw : i.wellFormed s.cfg = true)
    (hu : guardCell i .uninitialized = .stateError) (hi : guardCell i .idle = .stateError)
    (hm : guardCell i .measuring = .run) (hb : body s = s.calls i) : s.whenMeasuring body = s.transact i := by
  unfold State.whenMeasuring
  split
  next hl => rw [transact_stateError (by rw [hl, hu])]
  next hl => rw [transact_stateError (by rw [hl, hi])]
  next hl => rw [transact_run (by rw [hl, hm]) hw, hb]

theorem exec_hostOp_eq_run {body : State → Result} (he : exec i s = hostOp i body s) (hi : i.isHostOp = true)
    (hb : ∀ u, body u = u.transact i) : exec i s = s.run i State.accept (State.transact i) := by
  have accept : s.accept i = s.acceptHost i := if_pos hi
  rw [he, ← funext hb, hostOp, State.run, State.run, accept]

theorem exec_unitOp_eq_run {body : State → Result} (he : exec i s = unitOp i body s) (hi : i.isHostOp = false)
    (hb : ∀ u, body u = u.transact i) : exec i s = s.run i State.accept (State.transact i) := by
  have accept : s.accept i = s.acceptUnit i := if_neg (by simp [hi])
  rw [he, ← funext hb, unitOp, State.run, State.run, accept]

/-- The meaning of an operation that makes port calls. -/
theorem exec_eq_transact (h : Transacts s.cfg i) : exec i s = s.run i State.accept (State.transact i) := by
  cases i with
  | init | start | stop =>
    refine exec_hostOp_eq_run (by rfl) rfl fun u => ?_
    unfold State.transact
    cases u.ls <;> rfl
  | reset => exact exec_hostOp_eq_run rfl rfl fun u => (transact_run (by cases u.ls <;> rfl) rfl).symm
  | setAutoCleanInterval seconds =>
    exact exec_hostOp_eq_run rfl rfl fun u => transact_eq_whenInitialized rfl rfl rfl rfl rfl
  | getSerialNumber | getProductNumber =>
    exact exec_hostOp_eq_run rfl rfl fun u => transact_eq_whenInitialized rfl rfl rfl rfl (query_packString ..)
  | getAutoCleanInterval =>
    exact exec_hostOp_eq_run rfl rfl fun u => transact_eq_whenInitialized rfl rfl rfl rfl (query_packU32 ..)
  | isNewDataAvailable =>
    exact exec_hostOp_eq_run rfl rfl fun u => transact_eq_whenMeasuring rfl rfl rfl rfl (query_packBool ..)
  | getMeasurement =>
    exact exec_hostOp_eq_run rfl rfl fun u => transact_eq_whenMeasuring rfl rfl rfl rfl (query_packRecord ..)
  | writeCommandWithArgs | readDelayed | readCommand | busStart | busSetAutoCleanInterval =>
    refine exec_unitOp_eq_run (by rfl) rfl fun u => ?_
    simp only [State.transact, guardCell, Instr.wellFormed, decide_eq_true_eq, beq_iff_eq, Bool.and_eq_true]
    rfl
  | writeCommand | busReset | busGetSerialNumber | busGetProductNumber | busStop | busIsNewDataAvailable
  | busGetMeasurement | busGetAutoCleanInterval =>
    exact exec_unitOp_eq_run rfl rfl fun u => (transact_run rfl rfl).symm
  | _ => rcases h with h | h <;> simp [exchangeOf] at h

/-! ### Acceptance -/

section
variable (s : State) (i : Instr)

/-- Acceptance is the envelope, with the operation in progress and in its first phase. -/
theorem accept_eq_opened :
    s.accept i = { s.opened i with ph := if i.isHostOp then .guard else s.ph, cur := some i } := by
  unfold State.accept State.opened
  split <;> rfl

@[simp] theorem State.accept_ls : (s.accept i).ls = s.ls := by rw [State.accept]; split <;> rfl
@[simp] theorem State.accept_cfg : (s.accept i).cfg = s.cfg := by rw [State.accept]; split <;> rfl
@[simp] theorem State.accept_cur : (s.accept i).cur = some i := by rw [State.accept]; split <;> rfl
@[simp] theorem State.accept_script : (s.accept i).script = s.script := by rw [State.accept]; split <;> rfl
@[simp] theorem State.accept_polls : (s.accept i).polls = s.polls := by rw [State.accept]; split <;> rfl
@[simp] theorem State.accept_trace : (s.accept i).trace = s.trace := by rw [State.accept]; split <;> rfl
@[simp] theorem State.accept_requests : (s.accept i).requests = s.requests := by rw [State.accept]; split <;> rfl
@[simp] theorem State.accept_txb : (s.accept i).txb = s.txb := by rw [State.accept]; split <;> rfl
@[simp] theorem State.accept_txlen : (s.accept i).txlen = s.txlen := by rw [State.accept]; split <;> rfl
@[simp] theorem State.accept_rxb : (s.accept i).rxb = s.rxb := by rw [State.accept]; split <;> rfl
@[simp] theorem State.accept_rxlen : (s.accept i).rxlen = s.rxlen := by rw [State.accept]; split <;> rfl
@[simp] theorem State.accept_idx : (s.accept i).idx = s.idx := by rw [State.accept]; split <;> rfl
@[simp] theorem State.accept_st : (s.accept i).st = s.st := by rw [State.accept]; split <;> rfl
@[simp] theorem State.accept_ret : (s.accept i).ret = none := by rw [State.accept]; split <;> rfl

theorem State.accept_ph : (s.accept i).ph = if i.isHostOp then .guard else s.ph := by
  rw [State.accept]; split <;> rfl

end

/-- No port call of an operation that has just been accepted is outstanding. -/
theorem accept_ph_ne (hr : s.ph = .ready) {p : Phase} (hg : p ≠ .guard) (hp : p ≠ .ready) : (s.accept i).ph ≠ p := by
  rw [State.accept_ph, hr]
  split
  · exact hg.symm
  · exact hp.symm

theorem exec_ready (h : Transacts s.cfg i) (hr : s.ph = .ready) : exec i s = (s.accept i).transact i := by
  rw [exec_eq_transact h, run_ready _ _ _ _ hr]

theorem exec_ready_run (h : Transacts s.cfg i) (hr : s.ph = .ready) (run : guardCell i s.ls = .run)
    (hw : i.wellFormed s.cfg = true) : exec i s = (s.accept i).calls i := by
  rw [exec_ready h hr, transact_run (by simpa using run) (by simpa using hw)]

/-- An operation in progress goes on with its body. -/
theorem exec_resumed (h : Transacts s.cfg i) (hr : s.ph ≠ .ready) (hc : s.cur = some i) : exec i s = s.transact i := by
  rw [exec_eq_transact h, State.run, if_neg hr, if_pos hc]

theorem exec_resumed_run (h : Transacts s.cfg i) (hr : s.ph ≠ .ready) (hc : s.cur = some i)
    (run : guardCell i s.ls = .run) (hw : i.wellFormed s.cfg = true) : exec i s = s.calls i := by
  rw [exec_resumed h hr hc, transact_run run hw]

theorem transacts_of_exchange {x : Exchange} (h : exchangeOf s.cfg i = x) (hx : x ≠ .none) : Transacts s.cfg i :=
  .inr (h ▸ hx)

theorem calls_command {opcode : Word} {args : List Word} (h : exchangeOf s.cfg i = .command opcode args) :
    s.calls i = s.sendCommand opcode args (State.finish i) := by
  rw [State.calls, h]

theorem calls_query {opcode : Word} {delay n : Nat} (h : exchangeOf s.cfg i = .query opcode delay n) :
    s.calls i = s.query opcode delay n (State.finish i) := by
  rw [State.calls, h]

theorem calls_init : s.calls .init = .next (if s.ph = .addr then s.addressStage else s.openStage) := rfl

theorem twenty_le_maxW (cfg : Config) : 20 ≤ cfg.maxW := Nat.le_add_left ..

/-- A word count that a row of the exchange table names is within capacity when the operation is well-formed. -/
theorem wordCount_le_maxW {cfg : Config} {opcode : Word} {delay n : Nat} (h : exchangeOf cfg i = .query opcode delay n)
    (hw : i.wellFormed cfg = true) : n ≤ cfg.maxW := by
  have := twenty_le_maxW cfg
  cases i with
  | readDelayed | readCommand => cases h; exact of_decide_eq_true hw
  | getSerialNumber | getProductNumber | isNewDataAvailable | getMeasurement | getAutoCleanInterval
  | busGetSerialNumber | busGetProductNumber | busIsNewDataAvailable | busGetMeasurement
  | busGetAutoCleanInterval => cases h; omega
  | _ => cases h

theorem argCount_le_maxW {cfg : Config} {opcode : Word} {args : List Word}
    (h : exchangeOf cfg i = .command opcode args) (hw : i.wellFormed cfg = true) : args.length ≤ cfg.maxW := by
  have := twenty_le_maxW cfg
  cases i with
  | writeCommandWithArgs => cases h; exact of_decide_eq_true hw
  | reset | start | stop | setAutoCleanInterval | writeCommand | busReset | busStart | busStop
  | busSetAutoCleanInterval => cases h; simp only [List.length]; omega
  | _ => cases h

end Sys2Proof.Machine
end

section
/-! What the calls of an operation can come to, said once: in which states which call is reached, and how it ends. Every
next state of an operation that makes port calls is one of these endings. -/

namespace Sys2Proof.Machine

variable {i : Instr} {s t u v : State} {c : PortCall}

/-! ### The port's answers -/

/-- Answer `a` to call `c` has been received. -/
def State.heard (s : State) (c : PortCall) (a : PortAnswer) : State := s.polled.record (.call c a)

section
variable (s : State) (c : PortCall) (a : PortAnswer)

@[simp] theorem State.heard_ls : (s.heard c a).ls = s.ls := rfl
@[simp] theorem State.heard_cfg : (s.heard c a).cfg = s.cfg := rfl
@[simp] theorem State.heard_requests : (s.heard c a).requests = s.requests := rfl
@[simp] theorem State.heard_trace : (s.heard c a).trace = s.trace ++ [.call c a] := rfl

end

/-- The `Ok` of a call that is no read carries nothing (92_eei_decisions.md D36). -/
theorem reply_ok_eq_nil {bs : List Byte} (hc : ∀ m, c ≠ .read m) (h : s.reply c = some (.ok bs)) : bs = [] := by
  have conformed : ∃ a, conform c a = .ok bs := by
    unfold State.reply at h
    split at h <;> obtain ⟨a, -, ha⟩ := Option.map_eq_some_iff.1 h <;> exact ⟨a, ha⟩
  obtain ⟨a, ha⟩ := conformed
  cases c with
  | read m => exact absurd rfl (hc m)
  | openPath | setAddress | write => cases a <;> cases ha; rfl

/-! ### Which call is reached where -/

/-- The operation sends this frame, as a command or as the bare opcode of a query. -/
def Sends (cfg : Config) (i : Instr) (opcode : Word) (args : List Word) : Prop :=
  exchangeOf cfg i = .command opcode args ∨ args = [] ∧ ∃ delay n, exchangeOf cfg i = .query opcode delay n

theorem Sends.exchange_ne_none {cfg : Config} {opcode : Word} {args : List Word} (h : Sends cfg i opcode args) :
    exchangeOf cfg i ≠ .none := by
  obtain h | ⟨-, delay, n, h⟩ := h <;> simp [h]

/-- Operation `i`, its body run from `u`, comes to make call `c` in state `v`. -/
inductive Reaches (i : Instr) (u : State) : State → PortCall → Prop where
  | openPort (hi : i = .init) (hp : u.ph ≠ .addr) :
      Reaches i u { u with ph := .openPort } (.openPath u.cfg.busPath)
  | address (hi : i = .init) (hp : u.ph = .addr) : Reaches i u u (.setAddress u.cfg.busAddr)
  | opened (hi : i = .init) (hp : u.ph ≠ .addr) :
      Reaches i u { ({ u with ph := .openPort } : State).heard (.openPath u.cfg.busPath) (.ok []) with ph := .addr }
        (.setAddress u.cfg.busAddr)
  | encoded {opcode : Word} {args : List Word} (hx : Sends u.cfg i opcode args) (hw : u.ph ≠ .write)
      (hr : (∃ delay n, exchangeOf u.cfg i = .query opcode delay n) → u.ph ≠ .read) :
      Reaches i u { u.encodeFrame opcode args with ph := .write } (.write (frameOf opcode args))
  | resumed {bytes : List Byte} (hx : exchangeOf u.cfg i ≠ .none) (hp : u.ph = .write)
      (hb : Memory.readBytes u.txb 0 u.txlen = some bytes) : Reaches i u u (.write bytes)
  | reading {opcode : Word} {delay n : Nat} (hx : exchangeOf u.cfg i = .query opcode delay n) (hp : u.ph = .read) :
      Reaches i u u (.read (3 * n))
  | written {opcode : Word} {delay n : Nat} {v : State} {bytes : List Byte}
      (hx : exchangeOf u.cfg i = .query opcode delay n) (h : Reaches i u v (.write bytes)) :
      Reaches i u { (v.heard (.write bytes) (.ok [])).settle delay with ph := .read } (.read (3 * n))

/-- Before a call the body writes the phase, the codec's scratch and `TXB`, and polls and records; nothing else. -/
theorem Reaches.frame (h : Reaches i u v c) :
    v = { u with ph := v.ph, idx := v.idx, crc := v.crc, txb := v.txb, txlen := v.txlen, script := v.script,
                 polls := v.polls, trace := v.trace } := by
  induction h with
  | written hx h ih =>
    rw [ih]
    unfold State.settle
    split <;> rfl
  | _ => rfl

theorem Reaches.ls (h : Reaches i u v c) : v.ls = u.ls := by rw [h.frame]
theorem Reaches.cfg (h : Reaches i u v c) : v.cfg = u.cfg := by rw [h.frame]
theorem Reaches.requests (h : Reaches i u v c) : v.requests = u.requests := by rw [h.frame]

theorem Reaches.ph_ne_ready (h : Reaches i u v c) : v.ph ≠ .ready := by
  cases h <;> simp [*]

/-- A read asks for the bytes of the words that the operation's row names. -/
theorem Reaches.of_read {m : Nat} (h : Reaches i u v (.read m)) :
    ∃ opcode delay n, exchangeOf u.cfg i = .query opcode delay n ∧ m = 3 * n := by
  cases h with
  | reading hx | written hx => exact ⟨_, _, _, hx, rfl⟩

theorem Reaches.of_readWords {n : Nat} (h : Reaches i u v (.read (3 * n))) :
    ∃ opcode delay, exchangeOf u.cfg i = .query opcode delay n := by
  obtain ⟨opcode, delay, m, hx, hm⟩ := h.of_read
  obtain rfl : n = m := Nat.eq_of_mul_eq_mul_left (by decide) hm
  exact ⟨opcode, delay, hx⟩

theorem Reaches.of_setAddress {a : Byte} (h : Reaches i u v (.setAddress a)) : i = .init := by
  cases h <;> assumption

/-! ### How a call ends -/

/-- A response of `n` words whose least failing triplet is `k` has been received: no word is committed. -/
def State.corrupted (s : State) (n k : Nat) (bs : List Byte) : State :=
  { (s.loadResponse n bs).clearWords with
      ph := .decode, idx := k, crc := crcAfterTriplets ((tripletsOf bs).take (k + 1)) s.crc }

/-- An intact response of `n` words has been received and its words committed. -/
def State.committed (s : State) (n : Nat) (bs : List Byte) : State :=
  { s.loadResponse n bs with
      ph := .decode, idx := n, crc := crcAfterTriplets (tripletsOf bs) s.crc, w := (tripletsOf bs).map Triplet.word,
      nw := n }

section
variable (s : State) (n k : Nat) (bs : List Byte)

@[simp] theorem State.corrupted_trace : (s.corrupted n k bs).trace = s.trace := rfl
@[simp] theorem State.corrupted_cfg : (s.corrupted n k bs).cfg = s.cfg := rfl
@[simp] theorem State.corrupted_ls : (s.corrupted n k bs).ls = s.ls := rfl
@[simp] theorem State.corrupted_requests : (s.corrupted n k bs).requests = s.requests := rfl
@[simp] theorem State.committed_trace : (s.committed n bs).trace = s.trace := rfl
@[simp] theorem State.committed_cfg : (s.committed n bs).cfg = s.cfg := rfl
@[simp] theorem State.committed_ls : (s.committed n bs).ls = s.ls := rfl
@[simp] theorem State.committed_requests : (s.committed n bs).requests = s.requests := rfl

end

section
variable (s : State) (i : Instr)

@[simp] theorem State.finish_ph : (s.finish i).ph = .ready := by cases i <;> rfl
@[simp] theorem State.finish_trace : (s.finish i).trace = s.trace := by cases i <;> rfl
@[simp] theorem State.finish_cfg : (s.finish i).cfg = s.cfg := by cases i <;> rfl
@[simp] theorem State.finish_requests : (s.finish i).requests = s.requests := by cases i <;> rfl
@[simp] theorem State.finish_txb : (s.finish i).txb = s.txb := by cases i <;> rfl
@[simp] theorem State.finish_txlen : (s.finish i).txlen = s.txlen := by cases i <;> rfl
@[simp] theorem State.finish_rxb : (s.finish i).rxb = s.rxb := by cases i <;> rfl
@[simp] theorem State.finish_rxlen : (s.finish i).rxlen = s.rxlen := by cases i <;> rfl
@[simp] theorem State.finish_w : (s.finish i).w = s.w := by cases i <;> rfl
@[simp] theorem State.finish_nw : (s.finish i).nw = s.nw := by cases i <;> rfl

end

/-- A host operation ends `Ok` (60_exceptions.md rule R156). -/
theorem finish_st (hi : i.isHostOp = true) (s : State) : (s.finish i).st = .ok := by
  cases i with
  | init | reset | getSerialNumber | getProductNumber | start | stop | isNewDataAvailable | getMeasurement
  | getAutoCleanInterval | setAutoCleanInterval => rfl
  | _ => cases hi

/-- An operation that is no host operation returns (rules R100 to R103). -/
theorem finish_unit (hi : i.isHostOp = false) (s : State) : s.finish i = s.returnUnit .ok := by
  cases i with
  | init | reset | getSerialNumber | getProductNumber | start | stop | isNewDataAvailable | getMeasurement
  | getAutoCleanInterval | setAutoCleanInterval => cases hi
  | _ => rfl

/-- Only init, start and stop write `LS` (43_lifecycle.md rule R131). -/
theorem finish_ls (h : i ≠ .init ∧ i ≠ .start ∧ i ≠ .stop) (s : State) : (s.finish i).ls = s.ls := by
  obtain ⟨h1, h2, h3⟩ := h
  cases i with
  | init | start | stop => contradiction
  | _ => rfl

/-- What operation `i`, its body run from `u`, ends in once its guard has passed. -/
inductive Ending (i : Instr) (u : State) : State → Prop where
  | held {v : State} {c : PortCall} (h : Reaches i u v c) : Ending i u v.polled
  | failed {v : State} {c : PortCall} (h : Reaches i u v c) (hc : ∀ m, c ≠ .read m) (e : IoError) :
      Ending i u ((v.heard c (.ioError e)).raise (.transport e))
  | readFailed {v : State} {m : Nat} (h : Reaches i u v (.read m)) (e : IoError) :
      Ending i u ((v.heard (.read m) (.ioError e)).dropResponse.raise (.transport e))
  | corrupt {v : State} {n k : Nat} {bs : List Byte} (h : Reaches i u v (.read (3 * n))) (hl : bs.length = 3 * n)
      (hk : firstBad (tripletsOf bs) = some k) :
      Ending i u (((v.heard (.read (3 * n)) (.ok bs)).corrupted n k bs).raise (.checksum k))
  | committed {v : State} {n : Nat} {bs : List Byte} (h : Reaches i u v (.read (3 * n))) (hl : bs.length = 3 * n)
      (hk : firstBad (tripletsOf bs) = none) :
      Ending i u (((v.heard (.read (3 * n)) (.ok bs)).committed n bs).finish i)
  | sent {v : State} {opcode : Word} {args : List Word} {bytes : List Byte} (h : Reaches i u v (.write bytes))
      (hx : exchangeOf u.cfg i = .command opcode args) : Ending i u ((v.heard (.write bytes) (.ok [])).finish i)
  | addressed {v : State} {a : Byte} (h : Reaches i u v (.setAddress a)) :
      Ending i u ((v.heard (.setAddress a) (.ok [])).finish i)

/-- A call that is no read, ending as what follows its `Ok` does. -/
theorem Ending.portCall {f : State → State} (h : Reaches i u v c) (hc : ∀ m, c ≠ .read m)
    (ok : Ending i u (f (v.heard c (.ok [])))) : Ending i u (Machine.portCall c raiseTransport (fun _ => f) v) := by
  refine portCall_induct v (Ending i u) c _ _ (fun _ => .held h) (fun e _ => .failed h hc e) fun bs hb => ?_
  obtain rfl := reply_ok_eq_nil hc hb
  exact ok

theorem Ending.readStage {n : Nat} (h : Reaches i u { v with ph := .read } (.read (3 * n))) :
    Ending i u (v.readStage n (State.finish i)) := by
  refine portCall_induct { v with ph := .read } (Ending i u) _ _ _ (fun _ => .held h) (fun e _ => .readFailed h e)
    fun bs hb => ?_
  have hl := reply_read_length _ _ _ hb
  cases hk : firstBad (tripletsOf bs) with
  | none => rw [decodeTriplets_ok _ _ _ _ hk]; exact .committed h hl hk
  | some k => rw [decodeTriplets_bad _ _ _ _ _ hk]; exact .corrupt h hl hk

theorem Ending.sendCommand {opcode : Word} {args : List Word} {f : State → State} (hx : Sends u.cfg i opcode args)
    (hr : (∃ delay n, exchangeOf u.cfg i = .query opcode delay n) → u.ph ≠ .read)
    (ok : ∀ v bytes, Reaches i u v (.write bytes) → Ending i u (f (v.heard (.write bytes) (.ok []))))
    (h : u.sendCommand opcode args f = .next t) : Ending i u t := by
  obtain ⟨hw, rfl⟩ | ⟨hw, bytes, hb, rfl⟩ := sendCommand_next u opcode args f t h
  · have reached := Reaches.encoded hx hw hr
    exact .portCall reached nofun (ok _ _ reached)
  · have reached : Reaches i u { u with ph := .write } (.write bytes) := by
      simpa [← hw] using Reaches.resumed hx.exchange_ne_none hw hb
    exact .portCall reached nofun (ok _ _ reached)

/-- Every next state of an operation's calls is one of the endings. -/
theorem calls_ending (ht : Transacts u.cfg i) (h : u.calls i = .next t) : Ending i u t := by
  cases hx : exchangeOf u.cfg i with
  | none =>
    obtain rfl : i = .init := ht.resolve_right fun hn => hn hx
    have address (v : State) (reached : Reaches .init u { v with ph := .addr } (.setAddress v.cfg.busAddr)) :
        Ending .init u v.addressStage := .portCall reached nofun (.addressed reached)
    rw [calls_init] at h
    cases h
    split
    next hp => exact address u (by simpa [← hp] using Reaches.address rfl hp)
    next hp => exact .portCall (.openPort rfl hp) nofun (address _ (.opened rfl hp))
  | command opcode args =>
    rw [calls_command hx] at h
    exact .sendCommand (.inl hx) (by simp [hx]) (fun v bytes reached => .sent reached hx) h
  | query opcode delay n =>
    rw [calls_query hx] at h
    obtain ⟨hp, rfl⟩ | ⟨hp, h⟩ := query_next u opcode delay n _ t h
    · exact .readStage (by simpa [← hp] using Reaches.reading hx hp)
    · exact .sendCommand (.inr ⟨rfl, delay, n, hx⟩) (fun _ => hp)
        (fun v bytes reached => .readStage (.written hx reached)) h

/-! ### The whole operation -/

/-- The state in which the body of operation `i` runs when the operation is presented in `s`: accepted, or resumed. -/
inductive Enters (i : Instr) (s : State) : State → Prop where
  | accepted (hr : s.ph = .ready) : Enters i s (s.accept i)
  | resumed (hr : s.ph ≠ .ready) (hc : s.cur = some i) : Enters i s s

theorem Enters.ls (h : Enters i s u) : u.ls = s.ls := by cases h <;> simp
theorem Enters.cfg (h : Enters i s u) : u.cfg = s.cfg := by cases h <;> simp
theorem Enters.cur (h : Enters i s u) : u.cur = some i := by cases h <;> simp [*]
theorem Enters.trace (h : Enters i s u) : u.trace = s.trace := by cases h <;> simp
theorem Enters.requests (h : Enters i s u) : u.requests = s.requests := by cases h <;> simp
theorem Enters.txb (h : Enters i s u) : u.txb = s.txb := by cases h <;> simp
theorem Enters.txlen (h : Enters i s u) : u.txlen = s.txlen := by cases h <;> simp
theorem Enters.rxb (h : Enters i s u) : u.rxb = s.rxb := by cases h <;> simp
theorem Enters.rxlen (h : Enters i s u) : u.rxlen = s.rxlen := by cases h <;> simp

/-- What the body of operation `i` answers in state `u`: by its guard an error or a no-op success, or the ending of its
calls. -/
inductive BodyEnding (i : Instr) (u : State) : State → Prop where
  | stateError (h : guardCell i u.ls = .stateError) : BodyEnding i u (u.raise .state)
  | noOp (h : guardCell i u.ls = .noOp) : BodyEnding i u u.returnOk
  | ran {t : State} (h : guardCell i u.ls = .run) (hw : i.wellFormed u.cfg = true) (he : Ending i u t) :
      BodyEnding i u t

theorem transact_bodyEnding (ht : Transacts u.cfg i) (h : u.transact i = .next t) : BodyEnding i u t := by
  cases hg : guardCell i u.ls with
  | stateError => rw [transact_stateError hg] at h; cases h; exact .stateError hg
  | noOp => rw [transact_noOp hg] at h; cases h; exact .noOp hg
  | run =>
    by_cases hw : i.wellFormed u.cfg = true
    · rw [transact_run hg hw] at h; exact .ran hg hw (calls_ending ht h)
    · rw [transact_malformed hg hw] at h; cases h

/-- A next state of an operation that makes port calls is the ending of its body, accepted or resumed. -/
theorem exec_bodyEnding (ht : Transacts s.cfg i) (h : exec i s = .next t) : ∃ u, Enters i s u ∧ BodyEnding i u t := by
  rw [exec_eq_transact ht] at h
  obtain ⟨hr, h⟩ | ⟨hr, hc, h⟩ := run_next s i State.accept (State.transact i) t h
  · exact ⟨_, .accepted hr, transact_bodyEnding (by simpa using ht) h⟩
  · exact ⟨s, .resumed hr hc, transact_bodyEnding ht h⟩

end Sys2Proof.Machine
end

section
/-! decode driven directly (41_codec.md rule R91): the triplets of a response by their index, what the loop reads up to the
first triplet that fails or is not whole, and the two endings of a decode. -/

namespace Sys2Proof

/-! ### Triplets by index -/

/-- The triplets of a response of `n` words, word `j` at byte `3*j` (20_memory.md rule R43). -/
theorem tripletsOf_eq_map {bs : List Byte} {n : Nat} (h : bs.length = 3 * n) :
    tripletsOf bs = (List.range n).map (Machine.tripletAt bs) := by
  induction n generalizing bs with
  | zero => rw [List.length_eq_zero_iff.1 (by omega : bs.length = 0)]; rfl
  | succ n ih =>
    match bs, h with
    | a :: b :: c :: rest, h =>
      simp only [List.length_cons] at h
      have shift (j : Nat) : Machine.tripletAt (a :: b :: c :: rest) (j + 1) = Machine.tripletAt rest j := by
        simp [Machine.tripletAt, Machine.byteAt, Nat.mul_add]
      rw [tripletsOf, ih (by omega), List.range_succ_eq_map, List.map_cons, List.map_map]
      simp only [Function.comp_def, Nat.succ_eq_add_one, shift]
      rfl

theorem intact_tripletAt (bs : List Byte) (j : Nat) :
    (Machine.tripletAt bs j).intact = true ↔ Machine.goodTriplet bs j := verify_iff ..

/-- A response has no failing index exactly when each of its triplets is good. -/
theorem firstBad_tripletsOf_eq_none {bs : List Byte} {n : Nat} (h : bs.length = 3 * n) :
    firstBad (tripletsOf bs) = none ↔ ∀ j < n, Machine.goodTriplet bs j := by
  simp [firstBad_eq_none, tripletsOf_eq_map h, intact_tripletAt]

theorem getElem?_tripletsOf {bs : List Byte} {n j : Nat} {t : Triplet} (h : bs.length = 3 * n) :
    (tripletsOf bs)[j]? = some t ↔ j < n ∧ Machine.tripletAt bs j = t := by
  simp [tripletsOf_eq_map h, List.getElem?_eq_some_iff]

/-- The failing index of a response is its least bad triplet. -/
theorem firstBad_tripletsOf_eq_some {bs : List Byte} {n k : Nat} (h : bs.length = 3 * n) :
    firstBad (tripletsOf bs) = some k ↔ Machine.leastBad bs n k := by
  simp only [firstBad_eq_some, getElem?_tripletsOf h, ← Bool.not_eq_true]
  constructor
  · rintro ⟨_, ⟨hk, rfl⟩, bad, before⟩
    exact ⟨hk, mt (intact_tripletAt bs k).2 bad,
      fun j hj => (intact_tripletAt bs j).1 (before j hj _ ⟨hj.trans hk, rfl⟩)⟩
  · rintro ⟨hk, bad, before⟩
    refine ⟨_, ⟨hk, rfl⟩, mt (intact_tripletAt bs k).1 bad, ?_⟩
    rintro j hj _ ⟨-, rfl⟩
    exact (intact_tripletAt bs j).2 (before j hj)

/-- Words that verify in front of other triplets do not fail, and the others keep their order behind them. -/
theorem firstBad_append (ts us : List Triplet) (h : firstBad ts = none) :
    firstBad (ts ++ us) = (firstBad us).map (· + ts.length) := by
  induction ts with
  | nil => simp
  | cons t ts ih =>
    rw [firstBad_eq_none] at h
    obtain ⟨ht, hts⟩ := List.forall_mem_cons.1 h
    rw [List.cons_append, firstBad, if_pos ht, ih ((firstBad_eq_none ts).2 hts), Option.map_map]
    rfl

theorem firstBad_cons_of_bad {t : Triplet} (h : t.intact = false) (ts : List Triplet) : firstBad (t :: ts) = some 0 := by
  simp [firstBad, h]

theorem tripletsOf_responseOf_append (ws : List Word) (bs : List Byte) :
    tripletsOf (responseOf ws ++ bs) = ws.map tripletOfWord ++ tripletsOf bs := by
  induction ws with
  | nil => rfl
  | cons w ws ih =>
    simp [responseOf, wordTriplet, tripletsOf, ih, tripletOfWord]

/-- A triplet that fails behind words that verify is the failing index. -/
theorem firstBad_behind_words (ws : List Word) (h l c : Byte) (rest : List Byte) (bad : verify h l c = false) :
    firstBad (tripletsOf (responseOf ws ++ [h, l, c] ++ rest)) = some ws.length := by
  rw [List.append_assoc, tripletsOf_responseOf_append, firstBad_append _ _ (firstBad_words ws)]
  simp [tripletsOf, firstBad_cons_of_bad (t := ⟨h, l, c⟩) bad]

namespace Machine

variable {s t : State} {n k : Nat}

/-! ### What the loop reads -/

/-- The loop passes the triplets that are whole and verify. -/
theorem readTriplets_past_good {m : Memory} {j : Nat} (good : ∀ a < k, holdsGood m (j + a)) :
    ∃ ts, firstBad ts = none ∧ ts.length = k ∧
      ∀ n, Memory.readTriplets m j (k + n) = (Memory.readTriplets m (j + k) n).map (ts ++ ·) := by
  induction k generalizing j with
  | zero => exact ⟨[], rfl, rfl, fun n => by simp⟩
  | succ k ih =>
    obtain ⟨h, l, h0, h1, h2⟩ := good 0 (Nat.succ_pos k)
    obtain ⟨ts, intact, len, rest⟩ := ih (j := j + 1) fun a ha => by
      have := good (a + 1) (Nat.succ_lt_succ ha)
      rwa [← Nat.add_assoc, Nat.add_right_comm] at this
    refine ⟨⟨h, l, checksum h l⟩ :: ts, by simp [firstBad, Triplet.intact, verify, intact], by simp [len], fun n => ?_⟩
    rw [Nat.add_right_comm k 1 n, readTriplets_good m j (k + n) h l h0 h1 h2, rest n, Option.map_map,
      Nat.add_right_comm j 1 k]
    rfl

/-- The loop stops at the first triplet that fails. -/
theorem readTriplets_least_failing {m : Memory} {h l c : Byte} (hk : k < n) (good : ∀ j < k, holdsGood m j)
    (h0 : Memory.read m (3 * k) = some h) (h1 : Memory.read m (3 * k + 1) = some l)
    (h2 : Memory.read m (3 * k + 2) = some c) (hc : checksum h l ≠ c) :
    ∃ ts, ts.length = k ∧ Memory.readTriplets m 0 n = some (ts ++ [⟨h, l, c⟩]) ∧
      firstBad (ts ++ [⟨h, l, c⟩]) = some k := by
  obtain ⟨ts, intact, len, read⟩ := readTriplets_past_good (j := 0) (by simpa using good)
  have bad : (⟨h, l, c⟩ : Triplet).intact = false := Bool.eq_false_iff.2 (mt (verify_iff h l c).1 hc)
  refine ⟨ts, len, ?_, by simp [firstBad_append ts _ intact, firstBad_cons_of_bad bad, len]⟩
  have := read (n - k - 1 + 1)
  rw [Nat.zero_add, readTriplets_failing m k _ h l c h0 h1 h2 hc] at this
  rwa [show k + (n - k - 1 + 1) = n by omega] at this

/-- The loop reads no value at the first triplet that is not whole. -/
theorem readTriplets_least_missing {m : Memory} (hk : k < n) (good : ∀ j < k, holdsGood m j) {a : Nat}
    (h1 : 3 * k ≤ a) (h2 : a < 3 * k + 3) (ha : Memory.read m a = none) : Memory.readTriplets m 0 n = none := by
  obtain ⟨ts, -, -, read⟩ := readTriplets_past_good (j := 0) (by simpa using good)
  have missing := readTriplets_missing m k (n - k - 1) (by
    obtain rfl | rfl | rfl : a = 3 * k ∨ a = 3 * k + 1 ∨ a = 3 * k + 2 := by omega
    · exact .inl ha
    · exact .inr (.inl ha)
    · exact .inr (.inr ha))
  have := read (n - k - 1 + 1)
  rw [Nat.zero_add, missing] at this
  rwa [show k + (n - k - 1 + 1) = n by omega] at this

/-! ### The two endings of a decode -/

/-- `CRC` after the triplets of some words is the checksum of the last word (40_checksum.md rule R81). -/
theorem crcAfterTriplets_eq (ts : List Triplet) (crc : Option Byte) :
    crcAfterTriplets ts crc = ((ts.map Triplet.word).getLast?.map wordChecksum).or crc := by
  have word (t : Triplet) : wordChecksum t.word = checksum t.h t.l := by simp [wordChecksum, Triplet.word]
  simp [crcAfterTriplets, List.getLast?_map, Option.map_map, Function.comp_def, word]

theorem crcAfterTriplets_concat (ts : List Triplet) (t : Triplet) (crc : Option Byte) :
    crcAfterTriplets (ts ++ [t]) crc = some (checksum t.h t.l) := by
  simp [crcAfterTriplets]

/-- Intact triplets: all their words are committed. -/
theorem decodeTriplets_commit {ts : List Triplet} {onOk : State → State} (h : firstBad ts = none)
    (hl : ts.length = n) :
    s.decodeTriplets n ts onOk = onOk { s.decoded (ts.map Triplet.word) with ph := .decode } := by
  rw [decodeTriplets_ok s n ts onOk h, crcAfterTriplets_eq]
  simp [State.decoded, hl]

/-- The least failing triplet is raised, and its checksum is left in `CRC`. -/
theorem decodeTriplets_raise {ts : List Triplet} {onOk : State → State} {t : Triplet} (h : firstBad ts = some k)
    (ht : ts[k]? = some t) :
    s.decodeTriplets n ts onOk = { s.endedChecksum k with idx := k, crc := some (checksum t.h t.l) } := by
  have upTo : ts.take (k + 1) = ts.take k ++ [t] := by rw [List.take_add_one, ht]; rfl
  rw [decodeTriplets_bad s n ts onOk k h, upTo, crcAfterTriplets_concat]
  rfl

/-- decode, its preconditions met, is its loop over the triplets it reads. -/
theorem exec_decode_reads {ts : List Triplet} (hr : s.ph = .ready) (hn : n ≤ s.cfg.maxW) (hl : s.rxlen = 3 * n)
    (ht : Memory.readTriplets s.rxb 0 n = some ts) :
    exec (.decode n) s = .next ((s.acceptUnit (.decode n)).decodeTriplets n ts fun s => s.returnUnit .ok) := by
  rw [exec, execDecode, unitOp_ready _ _ _ hr]
  simp [hn, hl, ht]

theorem exec_decode_buffer {bs : List Byte} (hr : s.ph = .ready) (hn : n ≤ s.cfg.maxW) (hl : s.rxlen = 3 * n)
    (hb : bs.length = 3 * n) (hx : s.rxb = bufferOf bs) :
    exec (.decode n) s =
      .next ((s.acceptUnit (.decode n)).decodeTriplets n (tripletsOf bs) fun s => s.returnUnit .ok) :=
  execDecode_buffer s n bs hr hn hl hb (hx.trans (bufferOf_eq_cellsFrom bs))

/-- decode of an intact response. -/
theorem exec_decode_intact {bs : List Byte} (hr : s.ph = .ready) (hn : n ≤ s.cfg.maxW) (hl : s.rxlen = 3 * n)
    (hb : bs.length = 3 * n) (hx : s.rxb = bufferOf bs) (intact : firstBad (tripletsOf bs) = none) :
    exec (.decode n) s =
      .next (((s.opened (.decode n)).decoded ((tripletsOf bs).map Triplet.word)).returned .ok) := by
  rw [exec_decode_buffer hr hn hl hb hx, decodeTriplets_commit intact (length_tripletsOf bs n hb)]
  rfl

/-- Settles O11: no triplet fails, so the words of all are committed. -/
theorem decodeCommitsAllWords : Obligations.DecodeCommitsAllWords := by
  unfold Obligations.DecodeCommitsAllWords
  intro n bs s hr hn hl hb hx good
  rw [exec_decode_intact hr hn hl hb hx ((firstBad_tripletsOf_eq_none hb).2 good), tripletsOf_eq_map hb, List.map_map]
  rfl

/-- Settles O12: the loop stops at the least failing triplet, which is then the failing index. -/
theorem decodeRaisesLeastFailingIndex : Obligations.DecodeRaisesLeastFailingIndex := by
  unfold Obligations.DecodeRaisesLeastFailingIndex
  refine ⟨fun n k bs s hr hn hl hb hx bad => ?_, fun n k h l c s hr hn hl hk good h0 h1 h2 hc => ?_⟩
  · have failing := (firstBad_tripletsOf_eq_some hb).2 bad
    obtain ⟨hk, -⟩ := bad
    rw [exec_decode_buffer hr hn hl hb hx, decodeTriplets_raise failing ((getElem?_tripletsOf hb).2 ⟨hk, rfl⟩)]
    rfl
  · obtain ⟨ts, rfl, read, failing⟩ := readTriplets_least_failing hk good h0 h1 h2 hc
    rw [exec_decode_reads hr hn hl read, decodeTriplets_raise failing List.getElem?_concat_length]
    rfl

/-! ### Encoding read back, and corruption -/

/-- Settles O13: behind the opcode stands the response of the words, and it decodes to them. -/
theorem decodeReadsBackEncodedWords : Obligations.DecodeReadsBackEncodedWords := by
  unfold Obligations.DecodeReadsBackEncodedWords
  intro opcode args s hr hn
  refine ⟨_, exec_encode_fits hr hn, fun u bs hu hcfg hl hx hb copied => ?_⟩
  have response : bs = responseOf args := by
    refine List.ext_getElem? fun j => ?_
    by_cases hj : j < 3 * args.length
    · rw [← copied j hj, read_txb_returned_framed, Nat.add_comm]
      rfl
    · rw [List.getElem?_eq_none (by omega), List.getElem?_eq_none (by rw [length_responseOf]; omega)]
  subst response
  have intact : firstBad (tripletsOf (responseOf args)) = none := by simp
  refine ⟨_, exec_decode_intact hu (hcfg ▸ hn) hl hb hx intact, ?_, ?_, rfl, rfl⟩
  · show (tripletsOf (responseOf args)).map Triplet.word = args
    simp [Function.comp_def]
  · show ((tripletsOf (responseOf args)).map Triplet.word).length = args.length
    simp

/-- Settles O14: the words in front verify, and the corrupted triplet does not. -/
theorem decodeReportsACorruptedTriplet : Obligations.DecodeReportsACorruptedTriplet := by
  unfold Obligations.DecodeReportsACorruptedTriplet
  intro before after w e0 e1 e2 s hr hn hl hx corruption
  have bad : verify (hiByte w ^^^ e0) (loByte w ^^^ e1) (checksum (hiByte w) (loByte w) ^^^ e2) = false := by
    obtain ⟨generated, flips, -⟩ := checksumDetectsUpToThreeFlippedBits
    obtain ⟨h1, h3⟩ | ⟨rfl, rfl, he⟩ := corruption
    · exact flips _ _ _ _ _ _ (generated _ _) h1 h3
    · rw [Bool.eq_false_iff, Ne, verify_iff]
      intro same
      simp only [BitVec.ofNat_eq_ofNat, BitVec.xor_zero] at same
      exact he ((BitVec.xor_right_inj _).1 (same.symm.trans BitVec.xor_zero.symm))
  refine ⟨_, exec_decode_buffer hr hn hl (by simp; omega) hx, ?_⟩
  rw [decodeTriplets_bad _ _ _ _ _ (firstBad_behind_words before _ _ _ _ bad)]
  exact ⟨rfl, rfl, rfl, fun i => rfl⟩

end Machine

end Sys2Proof
end

section
/-! The invariant (10_state.md rules R20 to R27, 20_memory.md rules R40 and R54): what it says of a state in the middle of an
operation, that every call is reached in such a state, and that every ending leads back to the invariant. -/

namespace Sys2Proof.Machine

variable {i : Instr} {s t u v : State} {c : PortCall}

/-! ### The operations that make no port call -/

/-- What the operations that make no port call answer, their preconditions met. -/
inductive UnitEnding (i : Instr) (u : State) : State → Prop where
  | checksum (hi : (∃ b0 b1, i = .generateChecksum b0 b1) ∨ ∃ b0 b1 c, i = .verifyChecksum b0 b1 c) (crc : Byte)
      (v : Returned) : UnitEnding i u (({ u with crc := some crc } : State).returnUnit v)
  | encoded {opcode : Word} {args : List Word} (hi : i = .encode opcode args) (hn : args.length ≤ u.cfg.maxW)
      (v : Returned) : UnitEnding i u ((u.encodeFrame opcode args).returnUnit v)
  | decoded {n : Nat} {ts : List Triplet} (hi : i = .decode n) (hn : n ≤ u.cfg.maxW)
      (ht : Memory.readTriplets u.rxb 0 n = some ts) :
      UnitEnding i u (u.decodeTriplets n ts fun s => s.returnUnit .ok)

/-- A unit operation driven directly is accepted without an envelope, or resumed. -/
theorem unitOp_next {body : State → Result} (hi : i.isHostOp = false) (h : unitOp i body s = .next t) :
    ∃ u, Enters i s u ∧ body u = .next t := by
  obtain ⟨hr, h⟩ | ⟨hr, hc, h⟩ := run_next s i State.acceptUnit body t h
  · have accept : s.accept i = s.acceptUnit i := if_neg (by simp [hi])
    exact ⟨_, .accepted hr, accept ▸ h⟩
  · exact ⟨s, .resumed hr hc, h⟩

theorem execGenerateChecksum_next {b0 b1 : Byte} (h : execGenerateChecksum b0 b1 s = .next t) :
    ∃ u, Enters (.generateChecksum b0 b1) s u ∧ UnitEnding (.generateChecksum b0 b1) u t := by
  obtain ⟨u, hu, h⟩ := unitOp_next (by rfl) h
  cases h
  exact ⟨u, hu, .checksum (.inl ⟨b0, b1, rfl⟩) _ _⟩

theorem execVerifyChecksum_next {b0 b1 c : Byte} (h : execVerifyChecksum b0 b1 c s = .next t) :
    ∃ u, Enters (.verifyChecksum b0 b1 c) s u ∧ UnitEnding (.verifyChecksum b0 b1 c) u t := by
  obtain ⟨u, hu, h⟩ := unitOp_next (by rfl) h
  cases h
  exact ⟨u, hu, .checksum (.inr ⟨b0, b1, c, rfl⟩) _ _⟩

theorem execEncode_next {opcode : Word} {args : List Word} (h : execEncode opcode args s = .next t) :
    ∃ u, Enters (.encode opcode args) s u ∧ UnitEnding (.encode opcode args) u t := by
  obtain ⟨u, hu, h⟩ := unitOp_next (by rfl) h
  refine ⟨u, hu, ?_⟩
  split at h
  next hn => cases h; exact .encoded rfl hn _
  · cases h

theorem execDecode_next {n : Nat} (h : execDecode n s = .next t) :
    ∃ u, Enters (.decode n) s u ∧ UnitEnding (.decode n) u t := by
  obtain ⟨u, hu, h⟩ := unitOp_next (by rfl) h
  refine ⟨u, hu, ?_⟩
  split at h
  next hn =>
    split at h
    · obtain ⟨ts, ht, h⟩ := withValue_next _ _ _ _ h
      cases h
      exact .decoded rfl hn ht
    · cases h
  · cases h

/-- A next state of any operation is the ending of its body, accepted or resumed. -/
theorem exec_next (h : exec i s = .next t) : ∃ u, Enters i s u ∧ (BodyEnding i u t ∨ UnitEnding i u t) := by
  by_cases ht : Transacts s.cfg i
  · obtain ⟨u, hu, he⟩ := exec_bodyEnding ht h
    exact ⟨u, hu, .inl he⟩
  have unit (h : ∃ u, Enters i s u ∧ UnitEnding i u t) : ∃ u, Enters i s u ∧ (BodyEnding i u t ∨ UnitEnding i u t) :=
    h.imp fun u hu => hu.imp_right .inr
  cases i with
  | generateChecksum => exact unit (execGenerateChecksum_next h)
  | verifyChecksum => exact unit (execVerifyChecksum_next h)
  | encode => exact unit (execEncode_next h)
  | decode => exact unit (execDecode_next h)
  | reserved0A0B | reserved0C0F | reserved181F => cases h
  | init => exact absurd (.inl rfl) ht
  | _ => exact absurd (.inr nofun) ht

/-! ### A state in the middle of an operation -/

/-- Operation `i` is in progress, and its words, buffers, status and payload registers are as the invariant says. -/
structure Active (i : Instr) (s : State) : Prop where
  words : s.wordsInv
  buffers : s.buffersInv
  status : s.statusInv
  payload : s.payloadInv
  cur : s.cur = some i

/-- The frame of operation `i` is in `TXB`, whole. -/
def HoldsFrame (i : Instr) (s : State) : Prop :=
  ∀ bs ∈ frameFor s.cfg i, s.txb = bufferOf bs ∧ s.txlen = bs.length

theorem hostBusy_of_cur (h : s.cur = some i) : s.hostBusy = i.isHostOp := by simp [State.hostBusy, h]

theorem hostBusy_of_cur_none (h : s.cur = none) : s.hostBusy = false := by simp [State.hostBusy, h]

theorem payloads_eq_nil :
    s.payloads = [] ↔ s.rbool = none ∧ s.ru32 = none ∧ s.rstrlen = none ∧ s.rrec = none := by
  cases hb : s.rbool <;> cases hu : s.ru32 <;> cases hl : s.rstrlen <;> cases hr : s.rrec <;>
    simp [State.payloads, hb, hu, hl, hr]

/-- The clauses about the status and payload registers depend on the operation in progress only by its being a host
operation. -/
theorem statusInv_of_hostBusy_eq {j : Option Instr} {p : Phase} {r : Option Returned}
    (hb : ({ s with cur := j, ph := p, ret := r } : State).hostBusy = s.hostBusy) (h : s.statusInv) :
    ({ s with cur := j, ph := p, ret := r } : State).statusInv := by
  rw [State.statusInv, hb]
  exact h

theorem payloadInv_of_hostBusy_eq {j : Option Instr} {p : Phase} {r : Option Returned}
    (hb : ({ s with cur := j, ph := p, ret := r } : State).hostBusy = s.hostBusy) (h : s.payloadInv) :
    ({ s with cur := j, ph := p, ret := r } : State).payloadInv := by
  rw [State.payloadInv, hb]
  exact h

/-- An operation presented in a state of the invariant leaves it in the middle of that operation. -/
theorem Enters.active (hi : s.Inv) (h : Enters i s u) : Active i u := by
  obtain ⟨words, buffers, status, payload, ⟨-, ready, -⟩, -⟩ := hi
  cases h with
  | resumed hr hc => exact ⟨words, buffers, status, payload, hc⟩
  | accepted hr =>
    have idle := hostBusy_of_cur_none (ready.1 hr)
    cases hh : i.isHostOp with
    | true =>
      have busy : (s.acceptHost i).hostBusy = true := (hostBusy_of_cur rfl).trans hh
      rw [State.accept, if_pos hh]
      refine ⟨⟨rfl, Nat.zero_le _, words.2.2⟩, buffers, ?_, ?_, rfl⟩
      · simp [State.statusInv, busy]
      · simp [State.payloadInv, State.payloads]
    | false =>
      have busy : (s.acceptUnit i).hostBusy = false := (hostBusy_of_cur rfl).trans hh
      rw [State.accept, if_neg (by simp [hh])]
      refine ⟨words, buffers, ?_, ?_, rfl⟩
      · exact statusInv_of_hostBusy_eq (busy.trans idle.symm) status
      · exact payloadInv_of_hostBusy_eq (busy.trans idle.symm) payload

/-- A frame that an operation is held with stands in `TXB`; an operation that has just been accepted is held with none. -/
theorem Enters.holdsFrame (hi : s.Inv) (h : Enters i s u) (hp : u.ph = .write ∨ u.ph = .read) : HoldsFrame i u := by
  obtain ⟨-, -, -, -, -, held⟩ := hi
  cases h with
  | resumed hr hc => exact held i hc
  | accepted hr =>
    obtain hp | hp := hp <;> exact absurd hp (accept_ph_ne hr nofun nofun)

/-! ### Every call is reached in such a state -/

theorem Sends.frameFor {cfg : Config} {opcode : Word} {args : List Word} (h : Sends cfg i opcode args) :
    frameFor cfg i = some (frameOf opcode args) := by
  unfold Machine.frameFor
  obtain h | ⟨rfl, delay, n, h⟩ := h <;> rw [h]

theorem Sends.length_le_maxW {cfg : Config} {opcode : Word} {args : List Word} (h : Sends cfg i opcode args)
    (hw : i.wellFormed cfg = true) : args.length ≤ cfg.maxW := by
  obtain h | ⟨rfl, -⟩ := h
  · exact argCount_le_maxW h hw
  · exact Nat.zero_le _

theorem heldPhases_init (cfg : Config) : heldPhases cfg .init = [.openPort, .addr] := rfl

theorem write_mem_heldPhases {cfg : Config} (h : exchangeOf cfg i ≠ .none) : .write ∈ heldPhases cfg i := by
  unfold heldPhases
  cases hx : exchangeOf cfg i with
  | none => exact absurd hx h
  | command | query => exact List.mem_cons_self

theorem heldPhases_query {cfg : Config} {opcode : Word} {delay n : Nat} (h : exchangeOf cfg i = .query opcode delay n) :
    heldPhases cfg i = [.write, .read] := by
  rw [heldPhases, h]

theorem holdsUpTo_bufferOf (bs : List Byte) : holdsUpTo (bufferOf bs) bs.length := by
  rw [holdsUpTo, bufferOf_eq_cellsFrom, cellsFrom_indices, List.range_eq_range']

/-- Encoding a frame whose words fit leaves the operation with its frame in `TXB`. -/
theorem Active.encodeFrame {opcode : Word} {args : List Word} (h : Active i s) (hn : args.length ≤ s.cfg.maxW) :
    Active i (s.encodeFrame opcode args) := by
  obtain ⟨⟨hw, hnw, -⟩, ⟨-, hrx, -, hrl⟩, status, payload, cur⟩ := h
  rw [encodeFrame_eq_framed]
  refine ⟨⟨hw, hnw, hn⟩, ⟨?_, hrx, ?_, hrl⟩, status, payload, cur⟩
  · have := holdsUpTo_bufferOf (frameOf opcode args)
    rwa [length_frameOf] at this
  · show 2 + 3 * args.length ≤ 2 + 3 * s.cfg.maxW
    omega

theorem Active.phase (h : Active i s) (p : Phase) : Active i { s with ph := p } :=
  ⟨h.words, h.buffers, h.status, h.payload, h.cur⟩

theorem Active.polled (h : Active i s) : Active i s.polled := ⟨h.words, h.buffers, h.status, h.payload, h.cur⟩

theorem Active.heard (h : Active i s) (c : PortCall) (a : PortAnswer) : Active i (s.heard c a) :=
  ⟨h.words, h.buffers, h.status, h.payload, h.cur⟩

theorem Active.settle (h : Active i s) (us : Nat) : Active i (s.settle us) := by
  unfold State.settle
  split
  · exact h
  · exact ⟨h.words, h.buffers, h.status, h.payload, h.cur⟩

theorem HoldsFrame.settle (h : HoldsFrame i s) (us : Nat) : HoldsFrame i (s.settle us) := by
  simpa only [HoldsFrame, State.settle_cfg, State.settle_txb, State.settle_txlen] using h

/-- A call is reached in the middle of the operation, in a phase of that operation and with its frame in `TXB`. -/
theorem Reaches.active (h : Reaches i u v c) (hu : Active i u) (hw : i.wellFormed u.cfg = true)
    (hf : u.ph = .write ∨ u.ph = .read → HoldsFrame i u) :
    Active i v ∧ HoldsFrame i v ∧ v.ph ∈ heldPhases u.cfg i := by
  induction h with
  | openPort hi => subst hi; exact ⟨hu.phase _, nofun, by simp [heldPhases_init]⟩
  | address hi hp => subst hi; exact ⟨hu, nofun, by simp [heldPhases_init, hp]⟩
  | opened hi => subst hi; exact ⟨((hu.phase _).heard _ _).phase _, nofun, by simp [heldPhases_init]⟩
  | encoded hx =>
    refine ⟨(hu.encodeFrame (hx.length_le_maxW hw)).phase _, fun bs hbs => ?_, write_mem_heldPhases hx.exchange_ne_none⟩
    obtain rfl : frameOf _ _ = bs := Option.some.inj (hx.frameFor.symm.trans hbs)
    simp [encodeFrame_eq_framed, State.framed]
  | resumed hx hp => exact ⟨hu, hf (.inl hp), hp ▸ write_mem_heldPhases hx⟩
  | reading hx hp => exact ⟨hu, hf (.inr hp), by simp [heldPhases_query hx, hp]⟩
  | written hx h ih =>
    obtain ⟨active, frame, -⟩ := ih
    exact ⟨((active.heard _ _).settle _).phase _, HoldsFrame.settle (s := State.heard ..) frame _,
      by simp [heldPhases_query hx]⟩

/-! ### Every ending leads back to the invariant -/

theorem resting_of_mem_heldPhases {cfg : Config} {p : Phase} (h : p ∈ heldPhases cfg i) : p.resting ∧ p ≠ .ready := by
  unfold heldPhases at h
  split at h
  · split at h
    · obtain rfl | rfl : p = .openPort ∨ p = .addr := by simpa using h
      all_goals decide
    · cases h
  · obtain rfl : p = .write := by simpa using h
    decide
  · obtain rfl | rfl : p = .write ∨ p = .read := by simpa using h
    all_goals decide

/-- An operation held at one of its calls. -/
theorem Active.held_inv (h : Active i s) (hf : HoldsFrame i s) (hp : s.ph ∈ heldPhases s.cfg i)
    (run : guardCell i s.ls = .run) (hw : i.wellFormed s.cfg = true) : s.Inv := by
  obtain ⟨words, buffers, status, payload, cur⟩ := h
  obtain ⟨rests, busy⟩ := resting_of_mem_heldPhases hp
  refine ⟨words, buffers, status, payload, ⟨rests, by simp [cur, busy], ?_⟩, ?_⟩
  all_goals
    intro j hj
    obtain rfl : i = j := Option.some.inj (cur.symm.trans hj)
  · exact ⟨hw, run, hp⟩
  · exact hf

/-- A state with no operation in progress. -/
theorem inv_of_ready (words : s.wordsInv) (buffers : s.buffersInv) (status : s.statusInv) (payload : s.payloadInv)
    (hr : s.ph = .ready) (hc : s.cur = none) : s.Inv :=
  ⟨words, buffers, status, payload, ⟨.inl hr, by simp [hr, hc], by simp [hc]⟩, by simp [State.heldFrameInv, hc]⟩

theorem raise_inv (words : s.wordsInv) (buffers : s.buffersInv) (e : SensorError)
    (he : ∀ k, e = .checksum k → k < s.cfg.maxW) : (s.raise e).Inv := by
  have busy : (s.raise e).hostBusy = false := hostBusy_of_cur_none (s.raise_cur e)
  have payload : (s.raise e).payloadInv := by simp [State.payloadInv, State.payloads]
  have status : (s.raise e).statusInv := by cases e <;> simp [State.statusInv, busy, he]
  have words' : (s.raise e).wordsInv := by
    cases e with
    | checksum k => exact ⟨rfl, Nat.zero_le _, words.2.2⟩
    | transport | state => exact words
  exact inv_of_ready words' (by simpa [State.buffersInv] using buffers) status payload (s.raise_ph e) (s.raise_cur e)

theorem Active.raise_inv (h : Active i s) (e : SensorError) (he : ∀ k, e = .checksum k → k < s.cfg.maxW) :
    (s.raise e).Inv := Machine.raise_inv h.words h.buffers e he

/-- A host operation has ended `Ok` with at most one payload register written. -/
theorem returnOk_inv (words : s.wordsInv) (buffers : s.buffersInv) (one : s.payloads.length ≤ 1)
    (string : s.rstr.length = s.rstrlen.getD 0) (short : s.rstr.length ≤ 32) : s.returnOk.Inv := by
  have busy : s.returnOk.hostBusy = false := rfl
  exact inv_of_ready words buffers (by simp [State.statusInv, busy])
    ⟨one, fun _ => rfl, by simp [busy], string, short⟩ rfl rfl

theorem Active.returnUnit_inv (h : Active i s) (hi : i.isHostOp = false) (v : Returned) : (s.returnUnit v).Inv := by
  have idle : s.hostBusy = false := (hostBusy_of_cur h.cur).trans hi
  exact inv_of_ready h.words h.buffers (statusInv_of_hostBusy_eq idle.symm h.status)
    (payloadInv_of_hostBusy_eq idle.symm h.payload) rfl rfl

theorem length_beforeNul_le (ws : List Word) : (beforeNul (bytesOfWords ws)).length ≤ 2 * ws.length := by
  have bytes : (bytesOfWords ws).length = 2 * ws.length := by simp [bytesOfWords, Nat.mul_comm]
  exact bytes ▸ (List.takeWhile_prefix _).length_le

/-- An operation whose last call has been answered well leads back to the invariant. -/
theorem Active.finish_inv (h : Active i s)
    (hx : ∀ opcode delay n, exchangeOf s.cfg i = .query opcode delay n → s.w.length = n) :
    (s.finish i).Inv := by
  have ⟨words, buffers, status, payload, cur⟩ := h
  have cleared (hi : i.isHostOp = true) : s.rbool = none ∧ s.ru32 = none ∧ s.rstrlen = none ∧ s.rrec = none :=
    payloads_eq_nil.1 (payload.2.2.1 ((hostBusy_of_cur cur).trans hi))
  obtain ⟨one, -, -, string, short⟩ := payload
  cases i with
  | init | reset | start | stop | setAutoCleanInterval => exact returnOk_inv words buffers one string short
  | getSerialNumber | getProductNumber =>
    obtain ⟨hb, hu, hl, hr⟩ := cleared rfl
    refine returnOk_inv words buffers ?_ rfl ?_
    · simp [State.payloads, hb, hu, hr]
    · have sixteen : s.w.length = 16 := hx _ _ _ rfl
      exact (length_beforeNul_le s.w).trans (by rw [sixteen])
  | isNewDataAvailable | getMeasurement | getAutoCleanInterval =>
    obtain ⟨hb, hu, hl, hr⟩ := cleared rfl
    refine returnOk_inv words buffers ?_ string short
    simp [State.payloads, hb, hu, hl, hr]
  | _ => exact h.returnUnit_inv rfl .ok

theorem Active.dropResponse (h : Active i s) : Active i s.dropResponse := by
  obtain ⟨⟨-, -, hidx⟩, ⟨htx, -, htl, -⟩, status, payload, cur⟩ := h
  exact ⟨⟨rfl, Nat.zero_le _, hidx⟩, ⟨htx, rfl, htl, Nat.zero_le _⟩, status, payload, cur⟩

/-- decode has committed words that fit. -/
theorem Active.decoded {ws : List Word} (h : Active i s) (hn : ws.length ≤ s.cfg.maxW) :
    Active i { s.decoded ws with ph := .decode } :=
  ⟨⟨rfl, hn, hn⟩, h.buffers, h.status, h.payload, h.cur⟩

/-- decode has failed at an index within capacity. -/
theorem Active.wordless {k : Nat} (h : Active i s) (hk : k ≤ s.cfg.maxW) (p : Phase) (crc : Option Byte) :
    Active i { s.clearWords with ph := p, idx := k, crc := crc } :=
  ⟨⟨rfl, Nat.zero_le _, hk⟩, h.buffers, h.status, h.payload, h.cur⟩

section
variable {n k : Nat} {bs : List Byte}

theorem Active.loadResponse (h : Active i s) (hl : bs.length = 3 * n) (hn : n ≤ s.cfg.maxW) :
    Active i (s.loadResponse n bs) := by
  obtain ⟨words, ⟨htx, -, htl, -⟩, status, payload, cur⟩ := h
  rw [loadResponse_eq_received]
  have filled := holdsUpTo_bufferOf bs
  rw [hl] at filled
  exact ⟨words, ⟨htx, filled, htl, Nat.mul_le_mul_left 3 hn⟩, status, payload, cur⟩

theorem Active.corrupted (h : Active i s) (hl : bs.length = 3 * n) (hn : n ≤ s.cfg.maxW) (hk : k ≤ s.cfg.maxW) :
    Active i (s.corrupted n k bs) := (h.loadResponse hl hn).wordless hk _ _

theorem Active.committed (h : Active i s) (hl : bs.length = 3 * n) (hn : n ≤ s.cfg.maxW) :
    Active i (s.committed n bs) := by
  obtain ⟨-, buffers, status, payload, cur⟩ := h.loadResponse hl hn
  exact ⟨⟨by simpa [State.committed] using length_tripletsOf bs n hl, hn, hn⟩, buffers, status, payload, cur⟩

end

theorem Ending.inv (h : Ending i u t) (hu : Active i u) (run : guardCell i u.ls = .run)
    (hw : i.wellFormed u.cfg = true) (hf : u.ph = .write ∨ u.ph = .read → HoldsFrame i u) : t.Inv := by
  cases h with
  | held h =>
    obtain ⟨active, frame, held⟩ := h.active hu hw hf
    rw [← h.cfg] at held hw
    rw [← h.ls] at run
    exact active.polled.held_inv frame held run hw
  | failed h hc e =>
    obtain ⟨active, -⟩ := h.active hu hw hf
    exact (active.heard _ _).raise_inv _ nofun
  | readFailed h e =>
    obtain ⟨active, -⟩ := h.active hu hw hf
    exact (active.heard _ _).dropResponse.raise_inv _ nofun
  | @corrupt v n k bs h hl hk =>
    obtain ⟨active, -⟩ := h.active hu hw hf
    obtain ⟨opcode, delay, hx⟩ := h.of_readWords
    have hn : n ≤ v.cfg.maxW := h.cfg ▸ wordCount_le_maxW hx hw
    have hkn : k < n := length_tripletsOf bs n hl ▸ firstBad_lt _ k hk
    refine ((active.heard _ _).corrupted hl hn (hkn.le.trans hn)).raise_inv _ ?_
    rintro _ ⟨⟩
    exact hkn.trans_le hn
  | @committed v n bs h hl hk =>
    obtain ⟨active, -⟩ := h.active hu hw hf
    obtain ⟨opcode, delay, hx⟩ := h.of_readWords
    have hn : n ≤ v.cfg.maxW := h.cfg ▸ wordCount_le_maxW hx hw
    refine ((active.heard _ _).committed hl hn).finish_inv fun opcode' delay' n' hx' => ?_
    have same : Exchange.query opcode delay n = .query opcode' delay' n' := hx.symm.trans (h.cfg ▸ hx')
    cases same
    simpa [State.committed] using length_tripletsOf bs n hl
  | sent h hx =>
    obtain ⟨active, -⟩ := h.active hu hw hf
    refine (active.heard _ _).finish_inv fun opcode' delay' n' hx' => ?_
    cases hx.symm.trans (h.cfg ▸ hx')
  | addressed h =>
    obtain ⟨active, -⟩ := h.active hu hw hf
    obtain rfl := h.of_setAddress
    exact (active.heard _ _).finish_inv nofun

theorem BodyEnding.inv (h : BodyEnding i u t) (hu : Active i u)
    (hf : u.ph = .write ∨ u.ph = .read → HoldsFrame i u) : t.Inv := by
  obtain ⟨-, -, -, string, short⟩ := hu.payload
  cases h with
  | stateError => exact hu.raise_inv _ nofun
  | noOp => exact returnOk_inv hu.words hu.buffers hu.payload.1 string short
  | ran run hw he => exact he.inv hu run hw hf

/-- The loop of a decode reads no more triplets than words asked for, and as many when none fails. -/
theorem readTriplets_length {m : Memory} {j n : Nat} {ts : List Triplet} (h : Memory.readTriplets m j n = some ts) :
    ts.length ≤ n ∧ (firstBad ts = none → ts.length = n) := by
  induction n generalizing j ts with
  | zero => cases h; exact ⟨Nat.le_refl _, fun _ => rfl⟩
  | succ n ih =>
    unfold Memory.readTriplets at h
    split at h
    · split at h
      next hv =>
        obtain ⟨us, hus, rfl⟩ := Option.map_eq_some_iff.1 h
        obtain ⟨le, eq⟩ := ih hus
        refine ⟨Nat.succ_le_succ le, fun hn => congrArg Nat.succ (eq ?_)⟩
        simpa [firstBad, Triplet.intact, hv] using hn
      next hv =>
        cases h
        exact ⟨Nat.succ_le_succ (Nat.zero_le _), by simp [firstBad, Triplet.intact, hv]⟩
    · cases h

theorem UnitEnding.inv (h : UnitEnding i u t) (hu : Active i u) : t.Inv := by
  have ⟨words, buffers, status, payload, cur⟩ := hu
  cases h with
  | checksum hi crc v =>
    have : i.isHostOp = false := by obtain ⟨_, _, rfl⟩ | ⟨_, _, _, rfl⟩ := hi <;> rfl
    exact Active.returnUnit_inv ⟨words, buffers, status, payload, cur⟩ this v
  | encoded hi hn v =>
    subst hi
    exact (hu.encodeFrame hn).returnUnit_inv rfl v
  | @decoded n ts hi hn ht =>
    subst hi
    obtain ⟨le, eq⟩ := readTriplets_length ht
    cases hk : firstBad ts with
    | none =>
      rw [decodeTriplets_commit hk (eq hk)]
      exact (hu.decoded (by rwa [List.length_map, eq hk])).returnUnit_inv rfl .ok
    | some k =>
      have hkn := (firstBad_lt ts k hk).trans_le (le.trans hn)
      rw [decodeTriplets_bad _ _ _ _ _ hk]
      refine (hu.wordless hkn.le _ _).raise_inv _ ?_
      rintro _ ⟨⟩
      exact hkn

/-- Every operation keeps the invariant, presented or resumed. -/
theorem exec_inv (hi : s.Inv) (h : exec i s = .next t) : t.Inv := by
  obtain ⟨u, hu, he | he⟩ := exec_next h
  · exact he.inv (hu.active hi) (hu.holdsFrame hi)
  · exact he.inv (hu.active hi)

/-! ### Steps -/

/-- A step that answers a next state waits, or runs an operation: the one in progress, or the one that the next request
decodes to. -/
theorem step_next (h : step s = .next t) :
    t = s ∨ ∃ i, (s.cur = some i ∧ exec i s = .next t) ∨
      (s.cur = none ∧ ∃ r rest, s.requests = r :: rest ∧ decode s.cfg r = .ok i ∧ exec i (s.take rest) = .next t) := by
  unfold step State.fetch at h
  cases hc : s.cur with
  | some i => rw [hc] at h; exact .inr ⟨i, .inl ⟨rfl, h⟩⟩
  | none =>
    rw [hc] at h
    cases hq : s.requests with
    | nil => rw [hq] at h; cases h; exact .inl rfl
    | cons r rest =>
      rw [hq] at h
      cases hd : decode s.cfg r with
      | ok i => simp only [hd] at h; exact .inr ⟨i, .inr ⟨rfl, r, rest, rfl, hd, h⟩⟩
      | error e => simp only [hd] at h; cases h

/-- Settles O50: a step waits or runs an operation, and every operation keeps the invariant. -/
theorem everyStepKeepsInv : Obligations.EveryStepKeepsInv := by
  unfold Obligations.EveryStepKeepsInv
  intro s t hi h
  obtain rfl | ⟨i, ⟨-, h⟩ | ⟨-, r, rest, -, -, h⟩⟩ := step_next h
  · exact hi
  · exact exec_inv hi h
  · exact exec_inv (s := s.take rest) hi h

/-- Settles O49. -/
theorem invHoldsAtReset : Obligations.InvHoldsAtReset := by
  unfold Obligations.InvHoldsAtReset
  exact inv_of_ready ⟨rfl, Nat.zero_le _, Nat.zero_le _⟩ ⟨rfl, rfl, Nat.zero_le _, Nat.zero_le _⟩
    (by simp [State.statusInv, State.reset])
    (by decide) rfl rfl

end Sys2Proof.Machine
end

section
/-! No step of a run reads an element without a value (10_state.md rule R32), and where such a read would fault; what every
step leaves of the configuration and the trace, and where it writes the lifecycle state. -/

namespace Sys2Proof.Machine

variable {i : Instr} {s t u v : State} {c : PortCall}

/-! ### Reads that find their value -/

/-- A buffer filled up to a length is the buffer of that many bytes. -/
theorem exists_bufferOf {m : Memory} {len : Nat} (h : holdsUpTo m len) : ∃ bs, m = bufferOf bs ∧ bs.length = len := by
  obtain ⟨bs, rfl, hl⟩ := Memory.readBytes_of_indices m 0 len (h.trans List.range_eq_range')
  exact ⟨bs, (bufferOf_eq_cellsFrom bs).symm, hl⟩

theorem readBytes_bufferOf (bs : List Byte) : Memory.readBytes (bufferOf bs) 0 bs.length = some bs := by
  rw [bufferOf_eq_cellsFrom, Memory.readBytes_buffer]

/-- The loop of a decode finds every byte of a buffer filled to its length. -/
theorem exists_readTriplets {m : Memory} {n : Nat} (h : holdsUpTo m (3 * n)) :
    ∃ ts, Memory.readTriplets m 0 n = some ts := by
  obtain ⟨bs, rfl, hl⟩ := exists_bufferOf h
  exact ⟨_, bufferOf_eq_cellsFrom bs ▸ readTriplets_buffer n bs hl⟩

/-- A write goes on when `TXB` is filled to `TXLEN`. -/
theorem exists_sendCommand {opcode : Word} {args : List Word} {f : State → State} (h : holdsUpTo s.txb s.txlen) :
    ∃ t, s.sendCommand opcode args f = .next t := by
  by_cases hp : s.ph = .write
  · obtain ⟨bs, hm, hl⟩ := exists_bufferOf h
    exact ⟨_, sendCommand_resumed s opcode args f bs hp (by rw [hm, ← hl, readBytes_bufferOf])⟩
  · exact ⟨_, sendCommand_fresh s opcode args f hp⟩

theorem exists_calls (h : holdsUpTo s.txb s.txlen) : ∃ t, s.calls i = .next t := by
  unfold State.calls
  split
  · exact ⟨_, rfl⟩
  · exact exists_sendCommand h
  · unfold State.query
    split
    · exact ⟨_, rfl⟩
    · exact exists_sendCommand h

/-- A result that is no fault. -/
def NoFault (r : Result) : Prop := ∀ f, r ≠ .fault f

theorem noFault_of_next {r : Result} (h : ∃ t, r = .next t) : NoFault r := by
  obtain ⟨t, rfl⟩ := h
  nofun

theorem transact_noFault (h : holdsUpTo s.txb s.txlen) : NoFault (s.transact i) := by
  unfold State.transact
  split
  · nofun
  · nofun
  · split
    · exact noFault_of_next (exists_calls h)
    · nofun

/-- An operation does not fault when its body does not, in the state presented or accepted. -/
theorem run_noFault {acc : State → Instr → State} {body : State → Result} (P : State → Prop) (accepted : P (acc s i))
    (resumed : P s) (h : ∀ v, P v → NoFault (body v)) : NoFault (s.run i acc body) := by
  unfold State.run
  split
  · exact h _ accepted
  · split
    · exact h _ resumed
    · nofun

theorem unitOp_noFault {body : State → Result} (h : ∀ v, v.rxb = s.rxb → v.rxlen = s.rxlen → NoFault (body v)) :
    NoFault (unitOp i body s) :=
  run_noFault (fun v => v.rxb = s.rxb ∧ v.rxlen = s.rxlen) ⟨rfl, rfl⟩ ⟨rfl, rfl⟩ fun v hv => h v hv.1 hv.2

theorem execDecode_noFault {n : Nat} (hrx : holdsUpTo s.rxb s.rxlen) : NoFault (execDecode n s) := by
  unfold execDecode
  refine unitOp_noFault fun v hv hl => ?_
  rw [hv, hl]
  split
  · split
    next hn =>
      obtain ⟨ts, ht⟩ := exists_readTriplets (hn ▸ hrx)
      rw [ht]
      nofun
    · nofun
  · nofun

theorem execEncode_noFault {opcode : Word} {args : List Word} : NoFault (execEncode opcode args s) := by
  unfold execEncode
  refine unitOp_noFault fun v _ _ => ?_
  split <;> nofun

theorem execGenerateChecksum_noFault {b0 b1 : Byte} : NoFault (execGenerateChecksum b0 b1 s) := by
  unfold execGenerateChecksum
  exact unitOp_noFault fun v _ _ => nofun

theorem execVerifyChecksum_noFault {b0 b1 c : Byte} : NoFault (execVerifyChecksum b0 b1 c s) := by
  unfold execVerifyChecksum
  exact unitOp_noFault fun v _ _ => nofun

/-- No operation faults in a state of the invariant. -/
theorem exec_noFault (hi : s.Inv) : NoFault (exec i s) := by
  obtain ⟨-, ⟨htx, hrx, -, -⟩, -⟩ := hi
  by_cases ht : Transacts s.cfg i
  · rw [exec_eq_transact ht]
    exact run_noFault (fun v => holdsUpTo v.txb v.txlen) (by simpa using htx) htx fun v => transact_noFault
  cases i with
  | generateChecksum => exact execGenerateChecksum_noFault
  | verifyChecksum => exact execVerifyChecksum_noFault
  | encode => exact execEncode_noFault
  | decode => exact execDecode_noFault hrx
  | reserved0A0B | reserved0C0F | reserved181F => nofun
  | init => exact absurd (.inl rfl) ht
  | _ => exact absurd (.inr nofun) ht

theorem step_noFault (hi : s.Inv) : NoFault (step s) := by
  unfold step
  cases s.fetch with
  | resume j => exact exec_noFault hi
  | idle => nofun
  | run j rest => exact exec_noFault (s := s.take rest) hi
  | reject e => nofun

/-! ### The operation in progress goes on -/

theorem transacts_of_mem_heldPhases {cfg : Config} {p : Phase} (h : p ∈ heldPhases cfg i) : Transacts cfg i := by
  unfold heldPhases at h
  split at h
  · split at h
    next hi => exact .inl hi
    · cases h
  next hx => exact .inr (by simp [hx])
  next hx => exact .inr (by simp [hx])

/-- What the invariant says of the operation in progress. -/
theorem inv_inProgress (hi : s.Inv) (hc : s.cur = some i) :
    Transacts s.cfg i ∧ s.ph ≠ .ready ∧ i.wellFormed s.cfg = true ∧ guardCell i s.ls = .run ∧
      s.ph ∈ heldPhases s.cfg i ∧ HoldsFrame i s := by
  obtain ⟨-, -, -, -, ⟨-, ready, held⟩, frame⟩ := hi
  obtain ⟨hw, run, hp⟩ := held i hc
  exact ⟨transacts_of_mem_heldPhases hp, (resting_of_mem_heldPhases hp).2, hw, run, hp, frame i hc⟩

theorem exists_exec_inProgress (hi : s.Inv) (hc : s.cur = some i) : ∃ t, exec i s = .next t := by
  obtain ⟨ht, hr, hw, run, -, -⟩ := inv_inProgress hi hc
  obtain ⟨-, ⟨htx, -⟩, -⟩ := hi
  rw [exec_resumed_run ht hr hc run hw]
  exact exists_calls htx

/-- The error that the status names can be read. -/
theorem exists_hostResult_error (hi : s.Inv) (hr : s.ph = .ready) (hs : s.st ≠ .ok) (i : Instr) :
    ∃ r, s.hostResult i = .ok r := by
  obtain ⟨-, -, ⟨-, -, -, checksum, transport, -⟩, -, ⟨-, ready, -⟩, -⟩ := hi
  have idle := hostBusy_of_cur_none (ready.1 hr)
  unfold State.hostResult
  cases hst : s.st with
  | ok => exact absurd hst hs
  | transportError =>
    obtain ⟨e, he⟩ := Option.ne_none_iff_exists'.1 (transport idle hst)
    exact ⟨.transportError e, by simp [he, Except.map]⟩
  | checksumError =>
    obtain ⟨k, hk⟩ := Option.ne_none_iff_exists'.1 (checksum idle hst)
    exact ⟨.checksumError k, by simp [hk, Except.map]⟩
  | stateError => exact ⟨.stateError, rfl⟩

/-- Settles O51: buffers are filled to their lengths, and a completed operation shows its typed result. -/
theorem noStepReadsAnElementWithoutValue : Obligations.NoStepReadsAnElementWithoutValue := by
  unfold Obligations.NoStepReadsAnElementWithoutValue
  intro s hi
  refine ⟨step_noFault hi, fun hc => ?_, exists_hostResult_error hi, fun i t hh h hr => ?_⟩
  · obtain ⟨i, hc⟩ := Option.ne_none_iff_exists'.1 hc
    have resume : step s = exec i s := by simp [step, State.fetch, hc]
    rw [resume]
    exact exists_exec_inProgress hi hc
  · obtain ⟨p, -, -, h⟩ | ⟨e, -, -, h⟩ | ⟨k, -, -, h⟩ | ⟨-, h⟩ := (exec_hostOp_ending hh h).showsTypedResult hr
    all_goals exact ⟨_, h⟩

end Sys2Proof.Machine
end

section
/-! What every step leaves of the configuration and the trace, where it writes the lifecycle state, and in which cells it
ends with StateError (43_lifecycle.md rules R120 and R131, 60_exceptions.md rules R153 and R155). -/

namespace Sys2Proof.Machine

variable {i : Instr} {s t u v : State} {c : PortCall}

/-! ### The configuration and the trace -/

/-- From `s` to `t` the configuration is kept and the trace only grows. -/
def Extends (s t : State) : Prop := t.cfg = s.cfg ∧ s.trace <+: t.trace

theorem Extends.refl (s : State) : Extends s s := ⟨rfl, List.prefix_refl _⟩

theorem Extends.of_eq (hc : t.cfg = s.cfg) (ht : t.trace = s.trace) : Extends s t := ⟨hc, ht ▸ List.prefix_refl _⟩

theorem Extends.trans (h : Extends s u) (h' : Extends u t) : Extends s t :=
  ⟨h'.1.trans h.1, h.2.trans h'.2⟩

theorem extends_heard (s : State) (c : PortCall) (a : PortAnswer) : Extends s (s.heard c a) :=
  ⟨rfl, List.prefix_append ..⟩

theorem extends_settle (s : State) (us : Nat) : Extends s (s.settle us) :=
  ⟨s.settle_cfg us, settle_isPrefix (List.prefix_refl _) us⟩

theorem Reaches.extends (h : Reaches i u v c) : Extends u v := by
  induction h with
  | opened => exact extends_heard { u with ph := .openPort } _ _
  | written hx h ih => exact (ih.trans (extends_heard ..)).trans (extends_settle ..)
  | _ => exact .refl u

theorem Ending.extends (h : Ending i u t) : Extends u t := by
  cases h with
  | held h => exact h.extends
  | failed h | readFailed h | corrupt h | committed h | sent h | addressed h =>
    obtain ⟨cfg, trace⟩ := h.extends
    exact ⟨by simpa using cfg, by simpa using trace.trans (List.prefix_append _ _)⟩

theorem Enters.extends (h : Enters i s u) : Extends s u := .of_eq h.cfg h.trace

theorem BodyEnding.extends (h : BodyEnding i u t) : Extends u t := by
  cases h with
  | stateError => exact .of_eq (by simp) (by simp)
  | noOp => exact .refl u
  | ran _ _ he => exact he.extends

theorem decodeTriplets_extends {n : Nat} {ts : List Triplet} (v : Returned) :
    Extends u (u.decodeTriplets n ts fun s => s.returnUnit v) := by
  cases hk : firstBad ts with
  | none => rw [decodeTriplets_ok _ _ _ _ hk]; exact .refl u
  | some k => rw [decodeTriplets_bad _ _ _ _ _ hk]; exact .of_eq (by simp) (by simp)

theorem UnitEnding.extends (h : UnitEnding i u t) : Extends u t := by
  cases h with
  | decoded => exact decodeTriplets_extends .ok
  | _ => exact .refl u

theorem exec_extends (h : exec i s = .next t) : Extends s t := by
  obtain ⟨u, hu, he | he⟩ := exec_next h
  · exact hu.extends.trans he.extends
  · exact hu.extends.trans he.extends

/-- Settles O52: what a step runs keeps the configuration and records events. -/
theorem stepsExtendTheTraceAndKeepTheConfiguration : Obligations.StepsExtendTheTraceAndKeepTheConfiguration := by
  unfold Obligations.StepsExtendTheTraceAndKeepTheConfiguration
  intro s t h
  have extend : Extends s t := by
    obtain rfl | ⟨i, ⟨-, h⟩ | ⟨-, r, rest, -, -, h⟩⟩ := step_next h
    · exact .refl t
    · exact exec_extends h
    · exact exec_extends (s := s.take rest) h
  obtain ⟨cfg, es, trace⟩ := extend
  exact ⟨cfg, es, trace.symm⟩

/-! ### The lifecycle state -/

/-- The three changes of `LS` (43_lifecycle.md rule R131), each at an `Ok` ending. -/
def MovesLs (i : Instr) (s t : State) : Prop :=
  t.ph = .ready ∧ t.st = .ok ∧
    (i = .init ∧ s.ls = .uninitialized ∧ t.ls = .idle ∨ i = .start ∧ s.ls = .idle ∧ t.ls = .measuring ∨
      i = .stop ∧ s.ls = .measuring ∧ t.ls = .idle)

theorem ls_of_guardCell_init {l : Lifecycle} (h : guardCell .init l = .run) : l = .uninitialized := by
  cases l <;> simp [guardCell, cellOf] at h ⊢

theorem ls_of_guardCell_start {l : Lifecycle} (h : guardCell .start l = .run) : l = .idle := by
  cases l <;> simp [guardCell, cellOf] at h ⊢

theorem ls_of_guardCell_stop {l : Lifecycle} (h : guardCell .stop l = .run) : l = .measuring := by
  cases l <;> simp [guardCell, cellOf] at h ⊢

/-- An operation that ends well moves `LS` as its row says or leaves it. -/
theorem finish_movesLs (run : guardCell i s.ls = .run) (hv : v.ls = s.ls) :
    (v.finish i).ls = s.ls ∨ MovesLs i s (v.finish i) := by
  by_cases h : i ≠ .init ∧ i ≠ .start ∧ i ≠ .stop
  · exact .inl ((finish_ls h v).trans hv)
  · obtain rfl | rfl | rfl : i = .init ∨ i = .start ∨ i = .stop := by tauto
    · exact .inr ⟨rfl, rfl, .inl ⟨rfl, ls_of_guardCell_init run, rfl⟩⟩
    · exact .inr ⟨rfl, rfl, .inr (.inl ⟨rfl, ls_of_guardCell_start run, rfl⟩)⟩
    · exact .inr ⟨rfl, rfl, .inr (.inr ⟨rfl, ls_of_guardCell_stop run, rfl⟩)⟩

theorem Ending.movesLs (h : Ending i u t) (run : guardCell i u.ls = .run) : t.ls = u.ls ∨ MovesLs i u t := by
  cases h with
  | held h => exact .inl h.ls
  | failed h | readFailed h | corrupt h => exact .inl (by simpa using h.ls)
  | committed h | sent h | addressed h => exact finish_movesLs run (by simpa using h.ls)

theorem exec_movesLs (h : exec i s = .next t) : t.ls = s.ls ∨ MovesLs i s t := by
  obtain ⟨u, hu, he⟩ := exec_next h
  have moves : t.ls = u.ls ∨ MovesLs i u t := by
    obtain (_ | _ | ⟨run, -, he⟩) | he := he
    · exact .inl (by simp)
    · exact .inl rfl
    · exact he.movesLs run
    · cases he with
      | decoded => exact .inl (decodeTriplets_keepsLs (onOk := fun s => s.returnUnit .ok) _ (fun _ => rfl) u)
      | _ => exact .inl rfl
  simpa only [MovesLs, hu.ls] using moves

/-- Settles O31: an operation leaves `LS` or moves it at an `Ok` ending, as the list allows. -/
theorem lifecycleChangesOnlyAtOkEndings : Obligations.LifecycleChangesOnlyAtOkEndings := by
  unfold Obligations.LifecycleChangesOnlyAtOkEndings
  intro s t h changed
  obtain rfl | ⟨i, ⟨hc, h⟩ | ⟨hc, r, rest, hq, hd, h⟩⟩ := step_next h
  · exact absurd rfl changed
  · obtain ⟨hr, hst, moves⟩ := (exec_movesLs h).resolve_left changed
    exact ⟨hr, hst, i, .inl hc, moves⟩
  · obtain ⟨hr, hst, moves⟩ := (exec_movesLs (s := s.take rest) h).resolve_left changed
    exact ⟨hr, hst, i, .inr ⟨hc, r, rest, hq, hd⟩, moves⟩

/-! ### StateError -/

theorem guardCell_of_not_hostOp (hi : i.isHostOp = false) (l : Lifecycle) : guardCell i l = .run := by
  cases i with
  | init | reset | getSerialNumber | getProductNumber | start | stop | isNewDataAvailable | getMeasurement
  | getAutoCleanInterval | setAutoCleanInterval => cases hi
  | _ => rfl

theorem isHostOp_of_guardCell {l : Lifecycle} (h : guardCell i l ≠ .run) : i.isHostOp = true := by
  by_contra hi
  exact h (guardCell_of_not_hostOp (by simpa using hi) l)

theorem transacts_of_hostOp (cfg : Config) (hi : i.isHostOp = true) : Transacts cfg i := by
  cases i with
  | init => exact .inl rfl
  | reset | getSerialNumber | getProductNumber | start | stop | isNewDataAvailable | getMeasurement
  | getAutoCleanInterval | setAutoCleanInterval => exact .inr nofun
  | _ => cases hi

/-- In a StateError cell an operation ends at once. -/
theorem exec_stateError (hr : s.ph = .ready) (h : guardCell i s.ls = .stateError) :
    exec i s = .next (s.opened i).endedState := by
  have hi : i.isHostOp = true := isHostOp_of_guardCell (l := s.ls) (by simp [h])
  rw [exec_ready (transacts_of_hostOp _ hi) hr, transact_stateError (by simpa using h), accept_eq_opened]
  rfl

/-- A completed host operation whose guard passed ends with another status. -/
theorem Ending.st_ne_stateError (h : Ending i u t) (hi : i.isHostOp = true) (hr : t.ph = .ready) :
    t.st ≠ .stateError := by
  cases h with
  | held h => exact absurd hr h.ph_ne_ready
  | failed | readFailed | corrupt => simp
  | committed | sent | addressed => rw [finish_st hi]; nofun

/-- Settles O30: the guard alone raises StateError. -/
theorem stateErrorExactlyInItsCells : Obligations.StateErrorExactlyInItsCells := by
  unfold Obligations.StateErrorExactlyInItsCells
  refine ⟨fun i s => exec_stateError, fun i s t _ hi h hr => ?_⟩
  obtain ⟨u, hu, he⟩ := exec_bodyEnding (transacts_of_hostOp _ hi) h
  rw [← hu.ls]
  cases he with
  | stateError hg => simp [hg]
  | noOp hg => simp [hg]
  | ran hg _ he => simp [hg, he.st_ne_stateError hi hr]

/-- Settles O54. -/
theorem raiseWritesTheStatusRegisters : Obligations.RaiseWritesTheStatusRegisters := by
  unfold Obligations.RaiseWritesTheStatusRegisters
  exact ⟨fun _ _ => rfl, fun _ _ => rfl, fun _ => rfl, fun _ => rfl, rfl, rfl, rfl, rfl⟩

end Sys2Proof.Machine
end

section
/-! Where a read of an element without a value faults (10_state.md rule R32), and what is refused: violated preconditions,
malformed frames, reserved requests and overlapping ones. -/

namespace Sys2Proof.Machine

variable {i : Instr} {s t u v : State}

/-! ### Reads that find no value -/

theorem readBytes_eq_none {m : Memory} {n j a : Nat} (h1 : j ≤ a) (h2 : a < j + n) (ha : Memory.read m a = none) :
    Memory.readBytes m j n = none := by
  induction n generalizing j with
  | zero => omega
  | succ n ih =>
    unfold Memory.readBytes
    split
    next b rest hb hrest =>
      have : j ≠ a := by rintro rfl; simp [ha] at hb
      simp [ih (j := j + 1) (by omega) (by omega)] at hrest
    · rfl

theorem readW32_eq_none {k : Nat} (h : s.readW k = none ∨ s.readW (k + 1) = none) : s.readW32 k = none := by
  unfold State.readW32
  obtain h | h := h
  · rw [h]
  · rw [h]
    cases s.readW k <;> rfl

theorem stringWords_eq_none {n k : Nat} (hk : k < n) (h : s.readW k = none) : s.stringWords n = none := by
  refine if_neg fun ⟨hnw, hw⟩ => ?_
  rw [State.readW, if_pos (by omega), List.getElem?_eq_none_iff] at h
  omega

/-- A record needs its ten pairs of words. -/
theorem record20_eq_none {k : Nat} (hk : k < 10) (h : s.readW32 (2 * k) = none) : s.record20 = none := by
  interval_cases k <;> simp_all [State.record20]

/-- Each conversion faults when a word register it converts holds no value. -/
theorem pack_fault :
    (s.readW 0 = none → s.packBool = .fault (.noValue .w)) ∧
    ((∃ k < 2, s.readW k = none) → s.packU32 = .fault (.noValue .w)) ∧
    (∀ n, (∃ k < n, s.readW k = none) → s.packString n = .fault (.noValue .w)) ∧
    ((∃ k < 20, s.readW k = none) → s.packRecord = .fault (.noValue .w)) := by
  have pair {k : Nat} (h : s.readW k = none) : s.readW32 (2 * (k / 2)) = none := by
    refine readW32_eq_none ?_
    obtain hk | hk : 2 * (k / 2) = k ∨ 2 * (k / 2) + 1 = k := by omega
    · exact .inl (by rwa [hk])
    · exact .inr (by rwa [hk])
  refine ⟨fun h => ?_, fun ⟨k, hk, h⟩ => ?_, fun n ⟨k, hk, h⟩ => ?_, fun ⟨k, hk, h⟩ => ?_⟩
  · rw [State.packBool, h, withValue_none]
  · have h := pair h
    rw [show 2 * (k / 2) = 0 by omega] at h
    rw [State.packU32, h, withValue_none]
  · rw [State.packString, stringWords_eq_none hk h, withValue_none]
  · rw [State.packRecord, record20_eq_none (by omega) (pair h), withValue_none]

/-- A resumed write faults when `TXB` lacks a byte of the frame. -/
theorem exec_write_fault (hp : s.ph = .write) (hc : s.cur = some i) (hw : i.wellFormed s.cfg = true)
    (run : guardCell i s.ls = .run) (hx : exchangeOf s.cfg i ≠ .none) {a : Nat} (ha : a < s.txlen)
    (missing : Memory.read s.txb a = none) : exec i s = .fault (.noValue .txb) := by
  have none : Memory.readBytes s.txb 0 s.txlen = none := readBytes_eq_none (Nat.zero_le _) (by omega) missing
  have send (opcode : Word) (args : List Word) (f : State → State) := sendCommand_fault s opcode args f hp none
  rw [exec_resumed_run (.inr hx) (by simp [hp]) hc run hw]
  cases he : exchangeOf s.cfg i with
  | none => exact absurd he hx
  | command opcode args => rw [calls_command he, send]
  | query opcode delay n => rw [calls_query he, State.query, if_neg (by simp [hp]), send]

theorem readString_eq_none (h : s.rstrlen = none ∨ ∃ l, s.rstrlen = some l ∧ s.rstr.length < l) :
    s.readString = none := by
  unfold State.readString
  obtain h | ⟨l, h, hl⟩ := h
  · rw [h]
  · rw [h]
    exact if_neg (by omega)

/-- The host's reading faults when the register that goes with the status holds no value. -/
theorem hostResult_fault :
    (∀ i, s.st = .transportError → s.ioErr = none → s.hostResult i = .error (.noValue .ioErr)) ∧
    (∀ i, s.st = .checksumError → s.errIdx = none → s.hostResult i = .error (.noValue .errIdx)) ∧
    (s.st = .ok →
      (s.rbool = none → s.hostResult .isNewDataAvailable = .error (.noValue .rbool)) ∧
      (s.ru32 = none → s.hostResult .getAutoCleanInterval = .error (.noValue .ru32)) ∧
      (s.rrec = none → s.hostResult .getMeasurement = .error (.noValue .rrec)) ∧
      (s.rstrlen = none ∨ (∃ l, s.rstrlen = some l ∧ s.rstr.length < l) →
        s.hostResult .getSerialNumber = .error (.noValue .rstr) ∧
        s.hostResult .getProductNumber = .error (.noValue .rstr))) := by
  have payload {i : Instr} {f : Fault} (hs : s.st = .ok) (h : s.readPayload i = .error f) :
      s.hostResult i = .error f := by
    rw [State.hostResult, hs, h]
    rfl
  refine ⟨fun i hs h => ?_, fun i hs h => ?_, fun hs => ⟨fun h => ?_, fun h => ?_, fun h => ?_, fun h => ?_⟩⟩
  · rw [State.hostResult, hs, h]; rfl
  · rw [State.hostResult, hs, h]; rfl
  · exact payload hs (by rw [State.readPayload, h]; rfl)
  · exact payload hs (by rw [State.readPayload, h]; rfl)
  · exact payload hs (by rw [State.readPayload, h]; rfl)
  · have missing := readString_eq_none h
    exact ⟨payload hs (by rw [State.readPayload, missing]; rfl), payload hs (by rw [State.readPayload, missing]; rfl)⟩

theorem exec_decode_fault {n : Nat} (hr : s.ph = .ready) (hn : n ≤ s.cfg.maxW) (hl : s.rxlen = 3 * n)
    (ht : Memory.readTriplets s.rxb 0 n = none) : exec (.decode n) s = .fault (.noValue .rxb) := by
  rw [exec, execDecode, unitOp_ready _ _ _ hr]
  simp [hn, hl, ht]

/-- Settles O56: decode's loop, the resumed write, the conversions, and the host's reading. -/
theorem readingAnElementWithoutValueFaults : Obligations.ReadingAnElementWithoutValueFaults := by
  unfold Obligations.ReadingAnElementWithoutValueFaults
  refine ⟨?_, ?_, fun s => pack_fault, fun s => hostResult_fault⟩
  · rintro n s hr hn hl ⟨k, hk, good, a, h1, h2, ha⟩
    exact exec_decode_fault hr hn hl (readTriplets_least_missing hk good h1 h2 ha)
  · rintro i s hp hc hw run hx ⟨a, ha, missing⟩
    exact exec_write_fault hp hc hw run hx ha missing

/-! ### Refusals -/

theorem exec_malformed (h : Transacts s.cfg i) (hr : s.ph = .ready) (run : guardCell i s.ls = .run)
    (hw : ¬ i.wellFormed s.cfg = true) : exec i s = .refused (malformed i) := by
  rw [exec_ready h hr, transact_malformed (by simpa using run) (by simpa using hw)]

/-- Settles O10. -/
theorem codecRefusesViolatedPreconditions : Obligations.CodecRefusesViolatedPreconditions := by
  unfold Obligations.CodecRefusesViolatedPreconditions
  have exceeds {n m : Nat} (h : m < n) : ¬ decide (n ≤ m) = true := by simpa using h
  refine ⟨fun opcode words s hr hn => ?_, fun n s hr hn => ?_, fun opcode delay n s hr hn => ⟨?_, ?_⟩,
    fun n s hr hn hl => ?_⟩
  · exact exec_malformed (.inr nofun) hr rfl (exceeds hn)
  · rw [exec, execDecode, unitOp_ready _ _ _ hr]
    exact if_neg (Nat.not_le.2 hn)
  · exact exec_malformed (.inr nofun) hr rfl (exceeds hn)
  · exact exec_malformed (.inr nofun) hr rfl (exceeds hn)
  · rw [exec, execDecode, unitOp_ready _ _ _ hr]
    simp [hn, hl]

/-- Settles O35. -/
theorem malformedBusFramesAreRefused : Obligations.MalformedBusFramesAreRefused := by
  unfold Obligations.MalformedBusFramesAreRefused
  refine ⟨fun a c s hr hc => exec_malformed (.inr nofun) hr rfl ?_,
    fun a c b d s hr hcd => exec_malformed (.inr nofun) hr rfl ?_⟩
  · simpa [Instr.wellFormed, wordChecksum] using hc
  · simpa [Instr.wellFormed, wordChecksum, ← not_and_or] using hcd

theorem step_of_request {r : Request} {rest : List Request} (hc : s.cur = none) (hq : s.requests = r :: rest)
    (hd : decode s.cfg r = .ok i) : step s = exec i { s with requests := rest } := by
  simp [step, State.fetch, hc, hq, hd, State.take]

theorem step_of_undecoded {r : Request} {rest : List Request} {e : DecodeError} (hc : s.cur = none)
    (hq : s.requests = r :: rest) (hd : decode s.cfg r = .error e) : step s = .refused (.undecoded e) := by
  simp [step, State.fetch, hc, hq, hd]

theorem step_of_cur (hc : s.cur = some i) : step s = exec i s := by simp [step, State.fetch, hc]

theorem step_idle (hc : s.cur = none) (hq : s.requests = []) : step s = .next s := by simp [step, State.fetch, hc, hq]

/-- Settles O40. -/
theorem stepRunsTheDecodedRequest : Obligations.StepRunsTheDecodedRequest := by
  unfold Obligations.StepRunsTheDecodedRequest
  exact ⟨fun _ _ _ _ => step_of_request, fun _ _ _ _ => step_of_undecoded, fun _ _ => step_of_cur, fun _ => step_idle⟩

/-- The outcome of decoding names no operation, or a reserved instruction. -/
def namesNoOperation (r : Except DecodeError Instr) : Bool :=
  match r with
  | .ok i => isReserved i
  | .error _ => true

theorem decodeHost_zero_reserved :
    ∀ opid : BitVec 5, 0x0A ≤ opid.toNat → namesNoOperation (decodeHost opid 0) = true := by decide

/-- A host request from OPID 0x0A on decodes to a reserved instruction or to nothing. -/
theorem decodeHost_reserved {opid : BitVec 5} (arg : DWord) (h : 0x0A ≤ opid.toNat) :
    (∃ i, isReserved i = true ∧ decodeHost opid arg = .ok i) ∨ ∃ e, decodeHost opid arg = .error e := by
  have none := decodeHost_zero_reserved opid h
  rw [decodeHost_arg arg (by rintro rfl; exact absurd h (by decide))]
  cases hd : decodeHost opid 0 with
  | ok i => exact .inl ⟨i, by rwa [hd] at none, rfl⟩
  | error e => exact .inr ⟨e, rfl⟩

theorem exec_reserved (hi : isReserved i = true) : ∃ r, exec i s = .refused r := by
  cases i with
  | reserved0A0B | reserved0C0F | reserved181F => exact ⟨_, rfl⟩
  | _ => cases hi

/-- Settles O36. -/
theorem reservedHostRequestsAreRefused : Obligations.ReservedHostRequestsAreRefused := by
  unfold Obligations.ReservedHostRequestsAreRefused
  refine ⟨fun opid arg rest s hc hq h => ?_, fun _ _ => rfl, fun _ _ => rfl, fun _ _ => rfl⟩
  obtain ⟨i, hi, hd⟩ | ⟨e, hd⟩ := decodeHost_reserved arg h
  · rw [step_of_request hc hq hd]
    exact exec_reserved hi
  · exact ⟨_, step_of_undecoded hc hq hd⟩

theorem run_overlap {acc : State → Instr → State} {body : State → Result} (hr : s.ph ≠ .ready) (hc : s.cur ≠ some i) :
    s.run i acc body = .refused .overlap := by
  rw [State.run, if_neg hr, if_neg hc]

theorem unitOp_overlap {body : State → Result} (hr : s.ph ≠ .ready) (hc : s.cur ≠ some i) :
    unitOp i body s = .refused .overlap := run_overlap hr hc

/-- Settles O41: every operation but the reserved ones is accepted or resumed by `State.run`, which refuses the others. -/
theorem overlappingRequestIsRefused : Obligations.OverlappingRequestIsRefused := by
  unfold Obligations.OverlappingRequestIsRefused
  intro i s hi hr hc
  by_cases ht : Transacts s.cfg i
  · rw [exec_eq_transact ht, run_overlap hr hc]
  cases i with
  | generateChecksum => rw [exec, execGenerateChecksum, unitOp_overlap hr hc]
  | verifyChecksum => rw [exec, execVerifyChecksum, unitOp_overlap hr hc]
  | encode => rw [exec, execEncode, unitOp_overlap hr hc]
  | decode => rw [exec, execDecode, unitOp_overlap hr hc]
  | reserved0A0B | reserved0C0F | reserved181F => cases hi
  | init => exact absurd (.inl rfl) ht
  | _ => exact absurd (.inr nofun) ht

/-- Settles O39. -/
theorem writtenOutWordsDecode : Obligations.WrittenOutWordsDecode := by
  unfold Obligations.WrittenOutWordsDecode
  decide

/-- Settles O48. -/
theorem resetLeavesTheStatedValues : Obligations.ResetLeavesTheStatedValues := by
  unfold Obligations.ResetLeavesTheStatedValues
  refine ⟨rfl, rfl, rfl, rfl, fun _ => rfl, rfl, rfl, rfl, rfl, rfl, rfl, fun _ => ⟨rfl, rfl⟩, rfl, rfl, rfl, rfl, rfl,
    rfl, step_idle rfl rfl⟩

end Sys2Proof.Machine
end

section
/-! What an operation comes to when the script answers its calls (42_executor.md rules R100 to R105, 43_lifecycle.md rules
R121 to R130, 60_exceptions.md rules R151 to R156): one lemma per point at which it can end, said of every operation that
sends a frame; the statements are instances. -/

namespace Sys2Proof.Machine

variable {i : Instr} {s t u v : State} {opcode : Word} {args : List Word} {delay n : Nat} {e : IoError}
  {rest : List (Option PortAnswer)} {b : List Byte}

/-! ### One scripted call -/

section
variable {c : PortCall} {onError : IoError → State → State} {onBytes : List Byte → State → State}

/-- A call without an answer uses up a poll and changes nothing else. -/
theorem portCall_held (h : s.script = none :: rest) : portCall c onError onBytes s = s.passed rest [] := by
  rw [portCall, reply_script s c _ rest h]
  simp [State.polled, State.passed, h]

theorem conform_read_of_ne {count : Nat} {bs : List Byte} (h : bs.length ≠ count) :
    conform (.read count) (.ok bs) = .ioError (Config.transferError count bs) := if_neg h

/-- An `Ok` that breaks the port's contract counts as an `IoError` (92_eei_decisions.md D36). -/
theorem portCall_nonconforming {bs : List Byte} (h : s.script = some (.ok bs) :: rest)
    (hc : conform c (.ok bs) = .ioError e) :
    portCall c onError onBytes s = onError e (s.passed rest [.call c (.ioError e)]) := by
  rw [portCall, reply_script s c _ rest h, Option.map_some, hc, ← polled_record_eq_passed h]

end

/-! ### The write -/

/-- What follows the `Ok` of an operation's write. -/
def afterWrite (cfg : Config) (i : Instr) (s : State) : State :=
  match exchangeOf cfg i with
  | .query _ delay n => (s.settle delay).readStage n (State.finish i)
  | _ => s.finish i

theorem afterWrite_command {cfg : Config} (h : exchangeOf cfg i = .command opcode args) :
    afterWrite cfg i = State.finish i := by
  funext s
  rw [afterWrite, h]

theorem afterWrite_query {cfg : Config} (h : exchangeOf cfg i = .query opcode delay n) :
    afterWrite cfg i = fun s => (s.settle delay).readStage n (State.finish i) := by
  funext s
  rw [afterWrite, h]

/-- An operation none of whose calls is outstanding encodes its frame and writes it. -/
theorem calls_fresh (hx : Sends s.cfg i opcode args) (hw : s.ph ≠ .write) (hr : s.ph ≠ .read) :
    s.calls i = .next ((s.encodeFrame opcode args).writeStage (frameOf opcode args) (afterWrite s.cfg i)) := by
  obtain hx | ⟨rfl, delay, n, hx⟩ := hx
  · rw [calls_command hx, sendCommand_fresh _ _ _ _ hw, afterWrite_command hx]
  · rw [calls_query hx, query_fresh _ _ _ _ _ hr hw, afterWrite_query hx]

/-- An operation whose write is outstanding makes it again with the bytes in `TXB`. -/
theorem calls_outstanding {bytes : List Byte} (hx : exchangeOf s.cfg i ≠ .none) (hw : s.ph = .write)
    (hb : Memory.readBytes s.txb 0 s.txlen = some bytes) :
    s.calls i = .next (s.writeStage bytes (afterWrite s.cfg i)) := by
  cases he : exchangeOf s.cfg i with
  | none => exact absurd he hx
  | command opcode args => rw [calls_command he, sendCommand_resumed _ _ _ _ bytes hw hb, afterWrite_command he]
  | query opcode delay n =>
    rw [calls_query he, State.query, if_neg (by simp [hw]), sendCommand_resumed _ _ _ _ bytes hw hb, afterWrite_query he]

/-- The state in which an operation, accepted from `s`, has its frame in `TXB` and writes it. -/
def State.writing (s : State) (i : Instr) (opcode : Word) (args : List Word) : State :=
  { (s.opened i).framed opcode args with ph := .write, cur := some i }

theorem opened_ls (s : State) (i : Instr) : (s.opened i).ls = s.ls := by rw [State.opened]; split <;> rfl

theorem opened_script (s : State) (i : Instr) : (s.opened i).script = s.script := by rw [State.opened]; split <;> rfl

theorem State.writing_script (s : State) (i : Instr) (opcode : Word) (args : List Word) :
    (s.writing i opcode args).script = s.script :=
  opened_script s i

section
variable (hr : s.ph = .ready) (hw : i.wellFormed s.cfg = true) (run : guardCell i s.ls = .run)
include hr hw run

/-- An accepted operation writes its frame. -/
theorem exec_writes (hx : Sends s.cfg i opcode args) :
    exec i s = .next (portCall (.write (frameOf opcode args)) raiseTransport (fun _ => afterWrite s.cfg i)
      (s.writing i opcode args)) := by
  rw [exec_ready_run (.inr hx.exchange_ne_none) hr run hw,
    calls_fresh (by simpa using hx) (accept_ph_ne hr nofun nofun) (accept_ph_ne hr nofun nofun),
    State.accept_cfg, encodeFrame_eq_framed, accept_eq_opened]
  rfl

theorem exec_write_ok (hx : Sends s.cfg i opcode args) (h : s.script = some (.ok b) :: rest) :
    exec i s = .next (afterWrite s.cfg i ((s.writing i opcode args).passed rest [wrote opcode args])) := by
  rw [exec_writes hr hw run hx, portCall_ok ((s.writing_script i opcode args).trans h) rfl]
  rfl

theorem exec_write_ioError (hx : Sends s.cfg i opcode args) (h : s.script = some (.ioError e) :: rest) :
    exec i s = .next ((((s.opened i).framed opcode args).passed rest
      [.call (.write (frameOf opcode args)) (.ioError e)]).endedTransport e) := by
  rw [exec_writes hr hw run hx, portCall_ioError ((s.writing_script i opcode args).trans h)]
  rfl

theorem exec_write_held (hx : Sends s.cfg i opcode args) (h : s.script = none :: rest) :
    exec i s = .next ((s.writing i opcode args).passed rest []) := by
  rw [exec_writes hr hw run hx, portCall_held ((s.writing_script i opcode args).trans h)]

/-- A command whose write is answered ends as its row says. -/
theorem exec_command_ok (hx : exchangeOf s.cfg i = .command opcode args) (h : s.script = some (.ok b) :: rest) :
    exec i s = .next (((s.writing i opcode args).passed rest [wrote opcode args]).finish i) := by
  rw [exec_write_ok hr hw run (.inl hx) h, afterWrite_command hx]

/-- A query whose write is answered waits and reads. -/
theorem exec_query_reads (hx : exchangeOf s.cfg i = .query opcode delay n) (h : s.script = some (.ok b) :: rest) :
    exec i s = .next (((s.writing i opcode []).passed rest (wrote opcode [] :: waited delay)).readStage n
      (State.finish i)) := by
  rw [exec_write_ok hr hw run (.inr ⟨rfl, delay, n, hx⟩) h, afterWrite_query hx]
  simp only [settle_readStage]
  simp [State.passed]

end

/-! ### The read -/

section
variable (hr : s.ph = .ready) (hw : i.wellFormed s.cfg = true) (run : guardCell i s.ls = .run)
  (hx : exchangeOf s.cfg i = .query opcode delay n)
include hr hw run hx

theorem exec_read_held (h : s.script = some (.ok b) :: none :: rest) :
    exec i s = .next { (s.writing i opcode []).passed rest (wrote opcode [] :: waited delay) with ph := .read } := by
  rw [exec_query_reads hr hw run hx h, State.readStage, portCall_held rfl]
  simp [State.passed]

theorem exec_read_ioError (h : s.script = some (.ok b) :: some (.ioError e) :: rest) :
    exec i s = .next (({ (s.opened i).framed opcode [] with rxb := [], rxlen := 0, nw := 0, w := [] } : State).passed rest
      (wrote opcode [] :: (waited delay ++ [.call (.read (3 * n)) (.ioError e)])) |>.endedTransport e) := by
  rw [exec_query_reads hr hw run hx h, State.readStage, portCall_ioError rfl]
  simp only [State.passed, List.append_assoc, List.cons_append]
  rfl

theorem exec_read_nonconforming {bs : List Byte} (hl : bs.length ≠ 3 * n)
    (h : s.script = some (.ok b) :: some (.ok bs) :: rest) :
    ∃ u : State, exec i s = .next (u.raise (.transport (Config.transferError (3 * n) bs))) ∧ u.nw = 0 ∧ u.ls = s.ls := by
  rw [exec_query_reads hr hw run hx h, State.readStage, portCall_nonconforming rfl (conform_read_of_ne hl)]
  exact ⟨_, rfl, rfl, opened_ls s i⟩

theorem exec_read_corrupt {bs : List Byte} {k : Nat} (hl : bs.length = 3 * n) (bad : leastBad bs n k)
    (h : s.script = some (.ok b) :: some (.ok bs) :: rest) :
    exec i s = .next { ((((s.opened i).framed opcode []).received n bs).passed rest
      (queried opcode delay n bs)).endedChecksum k with
        idx := k, crc := some (checksum (tripletAt bs k).h (tripletAt bs k).l) } := by
  have failing := (firstBad_tripletsOf_eq_some hl).2 bad
  obtain ⟨hk, -⟩ := bad
  rw [exec_query_reads hr hw run hx h, readStage_answered hl rfl,
    decodeTriplets_raise failing ((getElem?_tripletsOf hl).2 ⟨hk, rfl⟩)]
  simp only [State.passed, queried, List.append_assoc, List.cons_append]
  rfl

/-- A query answered with an intact response ends as its row says, its words committed. -/
theorem exec_read_intact (ws : List Word) (hn : ws.length = n)
    (h : s.script = some (.ok b) :: some (.ok (responseOf ws)) :: rest) :
    exec i s = .next (({ ((((s.writing i opcode []).received n (responseOf ws)).decoded ws).passed rest
      (queried opcode delay n (responseOf ws))) with ph := .decode } : State).finish i) := by
  subst hn
  rw [exec_query_reads hr hw run hx h, readStage_committed ws rfl]
  simp only [State.passed, State.received, State.decoded, queried, List.append_assoc, List.cons_append]

end

/-! ### The executor's operations and the bus frames -/

/-- Settles O15. -/
theorem writeCommandsSendTheirFrame : Obligations.WriteCommandsSendTheirFrame := by
  unfold Obligations.WriteCommandsSendTheirFrame
  exact ⟨fun opcode s b rest hr h => exec_command_ok (i := .writeCommand opcode) hr rfl rfl rfl h,
    fun opcode words s b rest hr hn h =>
      exec_command_ok (i := .writeCommandWithArgs opcode words) hr (decide_eq_true hn) rfl rfl h⟩

/-- Settles O16. -/
theorem readCommandsFetchTheirWords : Obligations.ReadCommandsFetchTheirWords := by
  unfold Obligations.ReadCommandsFetchTheirWords
  exact ⟨fun opcode delay ws s b rest hr hn h =>
      exec_read_intact (i := .readDelayed opcode delay ws.length) hr (decide_eq_true hn) rfl rfl ws rfl h,
    fun opcode ws s b rest hr hn h =>
      exec_read_intact (i := .readCommand opcode ws.length) hr (decide_eq_true hn) rfl rfl ws rfl h⟩

/-- Settles O18. -/
theorem failedWriteEndsTheOperation : Obligations.FailedWriteEndsTheOperation := by
  unfold Obligations.FailedWriteEndsTheOperation
  intro i s e rest hr hw run h
  exact ⟨fun opcode args hx => exec_write_ioError hr hw run (.inl hx) h,
    fun opcode delay n hx => exec_write_ioError hr hw run (.inr ⟨rfl, delay, n, hx⟩) h⟩

/-- Settles O19. -/
theorem failedReadEndsTheOperation : Obligations.FailedReadEndsTheOperation := by
  unfold Obligations.FailedReadEndsTheOperation
  intro i s b e rest opcode delay n hr hw run hx h
  exact exec_read_ioError hr hw run hx h

/-- Settles O20. -/
theorem corruptedResponseEndsTheOperation : Obligations.CorruptedResponseEndsTheOperation := by
  unfold Obligations.CorruptedResponseEndsTheOperation
  intro i s b bs rest opcode delay n k hr hw run hx hl bad h
  exact exec_read_corrupt hr hw run hx hl bad h

/-- Settles O21. -/
theorem wrongLengthReadIsTransportError : Obligations.WrongLengthReadIsTransportError := by
  unfold Obligations.WrongLengthReadIsTransportError
  intro i s b bs rest opcode delay n hr hw run hx hl h
  obtain ⟨u, hu, nw, ls⟩ := exec_read_nonconforming hr hw run hx hl h
  exact ⟨_, hu, rfl, rfl, rfl, nw, ls⟩

/-- Settles O33. -/
theorem busCommandsAreTransferred : Obligations.BusCommandsAreTransferred := by
  unfold Obligations.BusCommandsAreTransferred
  intro s b rest hr h
  refine ⟨exec_command_ok (i := .busReset) hr rfl rfl rfl h, exec_command_ok (i := .busStop) hr rfl rfl rfl h,
    fun a c hc => ?_, fun a c d e hc he => ?_⟩
  · subst hc
    exact exec_command_ok (i := .busStart a _) hr (by simp [Instr.wellFormed, wordChecksum]) rfl rfl h
  · subst hc he
    exact exec_command_ok (i := .busSetAutoCleanInterval a _ d _) hr (by simp [Instr.wellFormed, wordChecksum]) rfl rfl h

/-- Settles O34. -/
theorem busQueriesFetchTheirResponse : Obligations.BusQueriesFetchTheirResponse := by
  unfold Obligations.BusQueriesFetchTheirResponse
  intro i s ws b rest opcode delay hr hi h
  have query (hi : i.isHostOp = false) (hw : i.wellFormed s.cfg = true)
      (hx : exchangeOf s.cfg i = .query opcode delay ws.length) :
      exec i s = .next ((((((s.opened i).framed opcode []).received ws.length (responseOf ws)).decoded ws).passed rest
        (queried opcode delay ws.length (responseOf ws))).returned .ok) := by
    rw [exec_read_intact hr hw (guardCell_of_not_hostOp hi _) hx ws rfl h, finish_unit hi]
    rfl
  obtain ⟨rfl, rfl, rfl, hl⟩ | ⟨rfl, rfl, rfl, hl⟩ | ⟨rfl, rfl, rfl, hl⟩ | ⟨rfl, rfl, rfl, hl⟩ | ⟨rfl, rfl, rfl, hl⟩ :=
    hi
  all_goals exact query rfl rfl (by rw [hl]; rfl)

/-! ### The lifecycle's commands -/

/-- Settles O24. -/
theorem resetSendsItsCommandInEveryState : Obligations.ResetSendsItsCommandInEveryState := by
  unfold Obligations.ResetSendsItsCommandInEveryState
  intro s b rest hr h
  exact exec_command_ok (i := .reset) hr rfl (by cases s.ls <;> rfl) rfl h

/-- A host operation whose cell is a no-op succeeds at once. -/
theorem exec_noOp (hr : s.ph = .ready) (h : guardCell i s.ls = .noOp) : exec i s = .next (s.opened i).endedOk := by
  have hi : i.isHostOp = true := isHostOp_of_guardCell (l := s.ls) (by simp [h])
  rw [exec_ready (transacts_of_hostOp _ hi) hr, transact_noOp (by simpa using h), accept_eq_opened]
  rfl

/-- Settles O25. -/
theorem startAndStopMoveTheLifecycle : Obligations.StartAndStopMoveTheLifecycle := by
  unfold Obligations.StartAndStopMoveTheLifecycle
  exact ⟨fun s b rest hr hl h => exec_command_ok (i := .start) hr rfl (by rw [hl]; rfl) rfl h,
    fun s hr hl => exec_noOp hr (by rw [hl]; rfl),
    fun s b rest hr hl h => exec_command_ok (i := .stop) hr rfl (by rw [hl]; rfl) rfl h,
    fun s hr hl => exec_noOp hr (by rw [hl]; rfl)⟩

/-- The state in which init, accepted from `s`, opens the port. -/
def State.opening (s : State) : State := { s.opened .init with ph := .openPort, cur := some .init }

/-- An accepted init opens the port, and then sets the address. -/
theorem exec_init_opens (hr : s.ph = .ready) (hl : s.ls = .uninitialized) :
    exec .init s = .next (portCall (.openPath s.cfg.busPath) raiseTransport (fun _ s => s.addressStage) s.opening) := by
  rw [exec_ready_run (.inl rfl) hr (by rw [hl]; rfl) rfl, calls_init, if_neg (accept_ph_ne (p := .addr) hr nofun nofun)]
  rfl

theorem exec_init_opened (hr : s.ph = .ready) (hl : s.ls = .uninitialized) (h : s.script = some (.ok b) :: rest) :
    exec .init s = .next (portCall (.setAddress s.cfg.busAddr) raiseTransport
      (fun _ s => ({ s with ls := .idle } : State).returnOk)
      { s.opening.passed rest [.call (.openPath s.cfg.busPath) (.ok [])] with ph := .addr }) := by
  rw [exec_init_opens hr hl, portCall_ok (s := s.opening) h rfl]
  rfl

/-- Settles O23. -/
theorem initOpensAndAddressesThePort : Obligations.InitOpensAndAddressesThePort := by
  unfold Obligations.InitOpensAndAddressesThePort
  intro s rest hr hl
  refine ⟨fun b1 b2 h => ?_, fun e h => ?_, fun b1 e h => ?_⟩
  · rw [exec_init_opened hr hl h, portCall_ok rfl rfl]
    simp only [State.passed, List.append_assoc]
    rfl
  · rw [exec_init_opens hr hl, portCall_ioError (s := s.opening) h]
    rfl
  · rw [exec_init_opened hr hl h, portCall_ioError rfl]
    simp only [State.passed, List.append_assoc]
    rfl

/-! ### The lifecycle's queries -/

theorem guardCell_of_initialized (h : s.ls ≠ .uninitialized) :
    guardCell .getSerialNumber s.ls = .run ∧ guardCell .getProductNumber s.ls = .run ∧
      guardCell .getAutoCleanInterval s.ls = .run ∧ ∀ u, guardCell (.setAutoCleanInterval u) s.ls = .run := by
  cases hl : s.ls with
  | uninitialized => exact absurd hl h
  | idle | measuring => exact ⟨rfl, rfl, rfl, fun _ => rfl⟩

/-- The string ends before the least index that holds a zero byte (30_encoding.md rule R65). -/
theorem beforeNul_eq_take (bs : List Byte) :
    ∃ L, L ≤ bs.length ∧ beforeNul bs = bs.take L ∧ (∀ k < L, byteAt bs k ≠ 0x00) ∧
      (L < bs.length → byteAt bs L = 0x00) := by
  induction bs with
  | nil => exact ⟨0, Nat.le_refl _, rfl, nofun, nofun⟩
  | cons b bs ih =>
    by_cases hb : b = 0x00
    · exact ⟨0, Nat.zero_le _, by simp [beforeNul, hb], nofun, fun _ => by simp [byteAt, hb]⟩
    · obtain ⟨L, hL, string, before, after⟩ := ih
      refine ⟨L + 1, Nat.succ_le_succ hL, ?_, fun k hk => ?_, fun h => after (Nat.lt_of_succ_lt_succ h)⟩
      · rw [beforeNul] at string ⊢
        rw [List.takeWhile_cons_of_pos (by simpa using hb), string, List.take_succ_cons]
      · cases k with
        | zero => exact hb
        | succ k => exact before k (Nat.lt_of_succ_lt_succ hk)

/-- An identity query ends with the bytes of its words before the first zero byte. -/
theorem finish_string {L : Nat} (hi : i = .getSerialNumber ∨ i = .getProductNumber)
    (string : beforeNul (bytesOfWords v.w) = (bytesOfWords v.w).take L) (hL : L ≤ (bytesOfWords v.w).length) :
    v.finish i = { v.endedOk with rstr := (bytesOfWords v.w).take L, rstrlen := some L } := by
  have put : v.finish i = (v.putString (beforeNul (bytesOfWords v.w))).returnOk := by
    obtain rfl | rfl := hi <;> rfl
  rw [put, string, State.putString, List.length_take, Nat.min_eq_left hL]
  rfl

/-- Settles O26. -/
theorem identityQueriesReturnTheirString : Obligations.IdentityQueriesReturnTheirString := by
  unfold Obligations.IdentityQueriesReturnTheirString
  intro i s ws b rest opcode delay hr hl hn hi h
  obtain ⟨L, hL, string, before, after⟩ := beforeNul_eq_take (bytesOfWords ws)
  have bytes : (bytesOfWords ws).length = 32 := by simp [bytesOfWords, hn]
  have query (hw : i.wellFormed s.cfg = true) (run : guardCell i s.ls = .run)
      (hx : exchangeOf s.cfg i = .query opcode delay 16) (identity : i = .getSerialNumber ∨ i = .getProductNumber) :
      exec i s = .next { (((((s.opened i).framed opcode []).received 16 (responseOf ws)).decoded ws).passed rest
        (queried opcode delay 16 (responseOf ws))).endedOk with
          rstr := (bytesOfWords ws).take L, rstrlen := some L } := by
    rw [exec_read_intact hr hw run hx ws hn h, finish_string identity]
    · rfl
    · exact string
    · exact hL
  obtain ⟨serial, product, -⟩ := guardCell_of_initialized hl
  refine ⟨L, bytes ▸ hL, before, bytes ▸ after, ?_⟩
  obtain ⟨rfl, rfl, rfl⟩ | ⟨rfl, rfl, rfl⟩ := hi
  · exact query rfl serial rfl (.inl rfl)
  · exact query rfl product rfl (.inr rfl)

/-- Field `k` of a record of words is words `2k` and `2k+1`. -/
theorem fields_recordOfWords (ws : List Word) :
    (recordOfWords ws).fields = (List.range 10).map fun k => catWords (ws.getD (2 * k) 0) (ws.getD (2 * k + 1) 0) := rfl

/-- Settles O28. -/
theorem measurementRecordIsPairsOfWords : Obligations.MeasurementRecordIsPairsOfWords := by
  unfold Obligations.MeasurementRecordIsPairsOfWords
  intro s ws b rest hr hm hn h
  have word {k : Nat} (hk : k < 20) : ws[k]? = some (ws.getD k 0) := by
    have lt : k < ws.length := hn ▸ hk
    rw [List.getElem?_eq_getElem lt, List.getD_eq_getElem _ _ lt]
  refine ⟨recordOfWords ws, fun k hk => ⟨_, _, word (by omega), word (by omega), ?_⟩,
    exec_read_intact (i := .getMeasurement) hr rfl (by rw [hm]; rfl) rfl ws hn h⟩
  rw [fields_recordOfWords, List.getElem?_map, List.getElem?_range hk]
  rfl

theorem toNat_hiWord (u : DWord) : (hiWord u).toNat = u.toNat / 65536 := by
  have shift : u.toNat >>> 16 = u.toNat / 65536 := Nat.shiftRight_eq_div_pow _ _
  have fits : u.toNat / 65536 < 65536 := by have := u.isLt; omega
  rw [hiWord, BitVec.extractLsb'_toNat, shift, Nat.mod_eq_of_lt fits]

theorem toNat_loWord (u : DWord) : (loWord u).toNat = u.toNat % 65536 := by
  rw [loWord, BitVec.extractLsb'_toNat, Nat.shiftRight_zero]

theorem toNat_catWords (a b : Word) : (catWords a b).toNat = a.toNat * 65536 + b.toNat := by
  calc (catWords a b).toNat
      = (catWords a b).toNat / 65536 * 65536 + (catWords a b).toNat % 65536 := (Nat.div_add_mod' _ _).symm
    _ = a.toNat * 65536 + b.toNat := by rw [← toNat_hiWord, ← toNat_loWord, hiWord_catWords, loWord_catWords]

/-- Settles O29. -/
theorem autoCleanIntervalIsTwoWords : Obligations.AutoCleanIntervalIsTwoWords := by
  unfold Obligations.AutoCleanIntervalIsTwoWords
  refine ⟨fun s u b rest hr hl h => ?_, fun s w0 w1 b rest hr hl h => ?_⟩
  all_goals obtain ⟨-, -, get, set⟩ := guardCell_of_initialized hl
  · exact ⟨hiWord u, loWord u, toNat_hiWord u, toNat_loWord u, 
      exec_command_ok (i := .setAutoCleanInterval u) hr rfl (set u) rfl h⟩
  · exact ⟨catWords w0 w1, toNat_catWords w0 w1, exec_read_intact (i := .getAutoCleanInterval) hr rfl get rfl [w0, w1] rfl h⟩

end Sys2Proof.Machine
end

section
/-! The hold at a port call (10_state.md rule R23, 42_executor.md rule R106): the states in which an operation waits for the
port's answer, and that going on from them is the operation as it was accepted. -/

namespace Sys2Proof.Machine

variable {i : Instr} {s t u v : State} {opcode : Word} {args : List Word} {delay n : Nat}
  {rest : List (Option PortAnswer)} {b : List Byte}

/-! ### Where an operation is held -/

theorem with_ph_eq_self {p : Phase} (h : s.ph = p) : { s with ph := p } = s := by
  subst h
  rfl

/-- An operation with an exchange sends a frame. -/
theorem exists_sends {cfg : Config} (h : exchangeOf cfg i ≠ .none) : ∃ opcode args, Sends cfg i opcode args := by
  cases hx : exchangeOf cfg i with
  | none => exact absurd hx h
  | command opcode args => exact ⟨opcode, args, .inl hx⟩
  | query opcode delay n => exact ⟨opcode, [], .inr ⟨rfl, delay, n, hx⟩⟩

/-- The bytes in `TXB` are the frame of the operation in progress. -/
theorem HoldsFrame.readBytes (h : HoldsFrame i s) (hx : Sends s.cfg i opcode args) :
    Memory.readBytes s.txb 0 s.txlen = some (frameOf opcode args) := by
  obtain ⟨htxb, hlen⟩ := h _ hx.frameFor
  rw [htxb, hlen, readBytes_bufferOf]

/-- Under the invariant the operation in progress makes again the call that it is held at, in the state it is held in. -/
theorem exec_inProgress_eq_portCall (hi : s.Inv) (hc : s.cur = some i) :
    ∃ c onError onBytes, exec i s = .next (portCall c onError onBytes s) := by
  obtain ⟨ht, hr, hw, run, hp, frame⟩ := inv_inProgress hi hc
  rw [exec_resumed_run ht hr hc run hw]
  have write (hx : exchangeOf s.cfg i ≠ .none) (hp : s.ph = .write) :
      ∃ c onError onBytes, s.calls i = .next (portCall c onError onBytes s) := by
    obtain ⟨opcode, args, sends⟩ := exists_sends hx
    rw [calls_outstanding hx hp (frame.readBytes sends), State.writeStage, with_ph_eq_self hp]
    exact ⟨_, _, _, rfl⟩
  cases hx : exchangeOf s.cfg i with
  | none =>
    obtain rfl : i = .init := ht.resolve_right fun hn => hn hx
    rw [heldPhases_init, List.mem_pair] at hp
    rw [calls_init]
    obtain hp | hp := hp
    · rw [if_neg (by simp [hp]), State.openStage, with_ph_eq_self hp]
      exact ⟨_, _, _, rfl⟩
    · rw [if_pos hp, State.addressStage, with_ph_eq_self hp]
      exact ⟨_, _, _, rfl⟩
  | command opcode args =>
    rw [heldPhases, hx, List.mem_singleton] at hp
    exact write (by simp [hx]) hp
  | query opcode delay n =>
    rw [heldPhases_query hx, List.mem_pair] at hp
    obtain hp | hp := hp
    · exact write (by simp [hx]) hp
    · rw [calls_query hx, State.query, if_pos hp, State.readStage, with_ph_eq_self hp]
      exact ⟨_, _, _, rfl⟩

theorem passed_nil (s : State) (rest : List (Option PortAnswer)) : s.passed rest [] = { s with script := rest } := by
  simp [State.passed]

/-- A further poll without an answer changes nothing. -/
theorem exec_inProgress_held (hi : s.Inv) (hc : s.cur = some i) (h : s.script = none :: rest) :
    exec i s = .next { s with script := rest } := by
  obtain ⟨c, onError, onBytes, call⟩ := exec_inProgress_eq_portCall hi hc
  rw [call, portCall_held h, passed_nil]

theorem exec_init_opens_held (hr : s.ph = .ready) (hl : s.ls = .uninitialized) (h : s.script = none :: rest) :
    exec .init s = .next (s.opening.passed rest []) := by
  rw [exec_init_opens hr hl, portCall_held (s := s.opening) h]

theorem exec_init_addresses_held (hr : s.ph = .ready) (hl : s.ls = .uninitialized)
    (h : s.script = some (.ok b) :: none :: rest) :
    exec .init s = .next { s.opening.passed rest [.call (.openPath s.cfg.busPath) (.ok [])] with ph := .addr } := by
  rw [exec_init_opened hr hl h, portCall_held rfl, passed_nil]
  rfl

/-- Settles O42. -/
theorem unansweredCallHoldsTheCore : Obligations.UnansweredCallHoldsTheCore := by
  unfold Obligations.UnansweredCallHoldsTheCore
  exact ⟨fun i s rest opcode args hr hw run h hx => exec_write_held hr hw run hx h,
    fun i s b rest opcode delay n hr hw run hx h => exec_read_held hr hw run hx h,
    fun s rest hr hl h => exec_init_opens_held hr hl h,
    fun s b rest hr hl h => exec_init_addresses_held hr hl h,
    fun i s rest hi hc h => exec_inProgress_held hi hc h⟩

/-! ### Going on after a hold -/

@[simp] theorem State.opened_cfg (s : State) (i : Instr) : (s.opened i).cfg = s.cfg := by
  rw [State.opened]; split <;> rfl

theorem State.writing_ls (s : State) (i : Instr) (opcode : Word) (args : List Word) :
    (s.writing i opcode args).ls = s.ls :=
  opened_ls s i

theorem State.writing_cfg (s : State) (i : Instr) (opcode : Word) (args : List Word) :
    (s.writing i opcode args).cfg = s.cfg :=
  s.opened_cfg i

theorem State.writing_readBytes (s : State) (i : Instr) (opcode : Word) (args : List Word) :
    Memory.readBytes (s.writing i opcode args).txb 0 (s.writing i opcode args).txlen = some (frameOf opcode args) := by
  have := readBytes_bufferOf (frameOf opcode args)
  rwa [length_frameOf] at this

/-- Acceptance does not look at the script. -/
theorem writing_passed (s : State) (sc answers : List (Option PortAnswer)) (es : List PortEvent) :
    (({ s with script := sc } : State).writing i opcode args).passed answers es =
      (s.writing i opcode args).passed answers es := by
  unfold State.writing State.opened
  split <;> rfl

theorem writing_passed_nil (s : State) (rest : List (Option PortAnswer)) :
    (s.writing i opcode args).passed rest [] = ({ s with script := rest } : State).writing i opcode args := by
  rw [← writing_passed s rest, passed_nil]
  unfold State.writing State.opened
  split <;> rfl

section
variable (hr : s.ph = .ready) (hw : i.wellFormed s.cfg = true) (run : guardCell i s.ls = .run)
include hr hw run

/-- An operation held at its write goes on as if it had just been accepted. -/
theorem exec_writing (hx : Sends s.cfg i opcode args) : exec i (s.writing i opcode args) = exec i s := by
  have cfg := s.writing_cfg i opcode args
  rw [exec_writes hr hw run hx, exec_resumed_run (.inr (cfg ▸ hx.exchange_ne_none)) (by simp [State.writing]) rfl
    (by rwa [s.writing_ls]) (by rwa [cfg]),
    calls_outstanding (cfg ▸ hx.exchange_ne_none) rfl (s.writing_readBytes i opcode args), cfg]
  rfl

/-- An operation held at its read goes on as if it had just been accepted and its write answered. -/
theorem exec_reading (hx : exchangeOf s.cfg i = .query opcode delay n) (h : s.script = some (.ok b) :: rest) :
    exec i { (s.writing i opcode []).passed rest (wrote opcode [] :: waited delay) with ph := .read } = exec i s := by
  have cfg := s.writing_cfg i opcode []
  rw [exec_query_reads hr hw run hx h, exec_resumed_run (.inr (by simp [State.passed, cfg, hx])) (by simp) rfl
    (by simpa [State.passed, s.writing_ls] using run) (by simpa [State.passed, cfg] using hw),
    calls_query (by simpa [State.passed, cfg] using hx), State.query, if_pos rfl]
  rfl

end

theorem guardCell_init_opening (hl : s.ls = .uninitialized) : guardCell .init s.opening.ls = .run := by
  rw [show s.opening.ls = s.ls from opened_ls s .init, hl]
  rfl

/-- An init held at `PortOpen` goes on as if it had just been accepted. -/
theorem exec_opening (hr : s.ph = .ready) (hl : s.ls = .uninitialized) : exec .init s.opening = exec .init s := by
  rw [exec_init_opens hr hl, exec_resumed_run (s := s.opening) (.inl rfl) nofun rfl (guardCell_init_opening hl) rfl,
    calls_init]
  rfl

/-- An init held at `PortSetAddress` goes on as if it had just been accepted and its `PortOpen` answered. -/
theorem exec_addressing (hr : s.ph = .ready) (hl : s.ls = .uninitialized) (h : s.script = some (.ok b) :: rest) :
    exec .init { s.opening.passed rest [.call (.openPath s.cfg.busPath) (.ok [])] with ph := .addr } = exec .init s := by
  rw [exec_init_opened hr hl h,
    exec_resumed_run (.inl rfl) (by simp) rfl (by exact guardCell_init_opening hl) rfl, calls_init]
  rfl

/-- Settles O43. -/
theorem heldOperationEndsAsIfAnsweredAtOnce : Obligations.HeldOperationEndsAsIfAnsweredAtOnce := by
  unfold Obligations.HeldOperationEndsAsIfAnsweredAtOnce
  refine ⟨fun i s rest hr h hw run ht => ?_, fun i s b rest hr h hw run ht => ?_, fun i s rest hi hc h => ?_⟩
  · obtain rfl | hx := ht
    · have hl := ls_of_guardCell_init run
      exact ⟨_, exec_init_opens_held hr hl h, nofun, rfl, by
        rw [passed_nil]
        exact exec_opening (s := { s with script := rest }) hr hl⟩
    · obtain ⟨opcode, args, sends⟩ := exists_sends hx
      exact ⟨_, exec_write_held hr hw run sends h, nofun, rfl, by
        rw [writing_passed_nil]
        exact exec_writing (s := { s with script := rest }) hr hw run sends⟩
  · obtain rfl | ⟨opcode, delay, n, hx⟩ := ht
    · have hl := ls_of_guardCell_init run
      exact ⟨_, exec_init_addresses_held hr hl h, .inl rfl, rfl,
        exec_addressing (s := { s with script := some (.ok b) :: rest }) hr hl rfl⟩
    · exact ⟨_, exec_read_held hr hw run hx h, .inr rfl, rfl, by
        rw [← writing_passed s (some (.ok b) :: rest)]
        exact exec_reading (s := { s with script := some (.ok b) :: rest }) hr hw run hx rfl⟩
  · exact ⟨_, exec_inProgress_held hi hc h, rfl, hc, rfl⟩

end Sys2Proof.Machine
end

section
/-! The calls an operation makes (20_memory.md rules R45 and R53, 42_executor.md rules R100 to R105): which events precede
each call, and that every ending records at most the answer to the call that is reached. -/

namespace Sys2Proof.Machine

variable {i : Instr} {s t u v : State} {c : PortCall} {opcode : Word} {args : List Word} {bytes : List Byte}
  {delay n : Nat} {p : Phase} {es : List PortEvent}

/-! ### What precedes a call -/

theorem Sends.unique {cfg : Config} {opcode' : Word} {args' : List Word} (h : Sends cfg i opcode args)
    (h' : Sends cfg i opcode' args') : opcode = opcode' ∧ args = args' := by
  obtain h | ⟨rfl, delay, n, h⟩ := h <;> obtain h' | ⟨rfl, delay', n', h'⟩ := h' <;>
    cases h.symm.trans h' <;> exact ⟨rfl, rfl⟩

/-- The frame that a held write makes again stands in `TXB`. -/
abbrev Framed (i : Instr) (u : State) : Prop := u.ph = .write → HoldsFrame i u

/-- A write sends the operation's frame, and no event precedes it. -/
theorem Reaches.of_write (h : Reaches i u v (.write bytes)) (hx : Sends u.cfg i opcode args) (frame : Framed i u) :
    bytes = frameOf opcode args ∧ v.trace = u.trace := by
  cases h with
  | encoded hx' =>
    obtain ⟨rfl, rfl⟩ := hx'.unique hx
    exact ⟨rfl, rfl⟩
  | resumed _ hp hb => exact ⟨Option.some.inj (hb.symm.trans ((frame hp).readBytes hx)), rfl⟩

/-- The write of a query precedes its read. -/
theorem Reaches.write_ph_ne_read (h : Reaches i u v (.write bytes)) (hx : exchangeOf u.cfg i = .query opcode delay n) :
    u.ph ≠ .read := by
  cases h with
  | encoded hs _ hr =>
    obtain ⟨rfl, -⟩ := hs.unique (.inr ⟨rfl, delay, n, hx⟩)
    exact hr ⟨delay, n, hx⟩
  | resumed _ hp => simp [hp]

/-- A command makes one call, its write. -/
theorem Reaches.of_command (h : Reaches i u v c) (hx : exchangeOf u.cfg i = .command opcode args) (frame : Framed i u) :
    c = .write (frameOf opcode args) ∧ v.trace = u.trace := by
  have write : ∃ bytes, c = .write bytes := by
    cases h with
    | openPort hi | address hi | opened hi => subst hi; cases hx
    | reading hx' | written hx' => cases hx'.symm.trans hx
    | encoded | resumed => exact ⟨_, rfl⟩
  obtain ⟨bytes, rfl⟩ := write
  obtain ⟨rfl, trace⟩ := h.of_write (.inl hx) frame
  exact ⟨rfl, trace⟩

/-- A query makes its write and, only after its `Ok` and the delay, its read. -/
theorem Reaches.of_query (h : Reaches i u v c) (hx : exchangeOf u.cfg i = .query opcode delay n) (frame : Framed i u) :
    (u.ph ≠ .read ∧ c = .write (frameOf opcode []) ∧ v.trace = u.trace) ∨
    (c = .read (3 * n) ∧ (u.ph = .read ∧ v.trace = u.trace ∨
      u.ph ≠ .read ∧ v.trace = u.trace ++ wrote opcode [] :: waited delay)) := by
  have write {v : State} {bytes : List Byte} (h : Reaches i u v (.write bytes)) :
      u.ph ≠ .read ∧ bytes = frameOf opcode [] ∧ v.trace = u.trace :=
    ⟨h.write_ph_ne_read hx, h.of_write (.inr ⟨rfl, delay, n, hx⟩) frame⟩
  cases h with
  | openPort hi | address hi | opened hi => subst hi; cases hx
  | encoded hs hw hr =>
    obtain ⟨hp, hb, trace⟩ := write (.encoded hs hw hr)
    exact .inl ⟨hp, by rw [hb], trace⟩
  | resumed hn hw hb =>
    obtain ⟨hp, hb, trace⟩ := write (.resumed hn hw hb)
    exact .inl ⟨hp, by rw [hb], trace⟩
  | reading hx' hp =>
    cases hx'.symm.trans hx
    exact .inr ⟨rfl, .inl ⟨hp, rfl⟩⟩
  | written hx' h =>
    cases hx'.symm.trans hx
    obtain ⟨hp, rfl, trace⟩ := write h
    refine .inr ⟨rfl, .inr ⟨hp, ?_⟩⟩
    show (State.settle _ delay).trace = _
    rw [State.settle_trace, State.heard_trace, trace, List.append_assoc]
    rfl

/-- An init opens the port and, only after its `Ok`, sets the address. -/
theorem Reaches.of_init (h : Reaches .init u v c) :
    (u.ph ≠ .addr ∧ c = .openPath u.cfg.busPath ∧ v.trace = u.trace) ∨
    (c = .setAddress u.cfg.busAddr ∧ (u.ph = .addr ∧ v.trace = u.trace ∨
      u.ph ≠ .addr ∧ v.trace = u.trace ++ [.call (.openPath u.cfg.busPath) (.ok [])])) := by
  cases h with
  | openPort _ hp => exact .inl ⟨hp, rfl, rfl⟩
  | address _ hp => exact .inr ⟨rfl, .inl ⟨hp, rfl⟩⟩
  | opened _ hp => exact .inr ⟨rfl, .inr ⟨hp, rfl⟩⟩
  | encoded hx => exact absurd rfl hx.exchange_ne_none
  | resumed hx => exact absurd rfl hx
  | reading hx | written hx => cases hx

/-- The events that precede a call tell of no failure and of no response. -/
theorem Reaches.quiet (h : Reaches i u v c) :
    ∃ es, v.trace = u.trace ++ es ∧ (∀ c e, PortEvent.call c (.ioError e) ∉ es) ∧
      ∀ m a, PortEvent.call (.read m) a ∉ es := by
  induction h with
  | openPort | address | encoded | resumed | reading => exact ⟨[], by simp⟩
  | opened => exact ⟨[_], rfl, by simp, by simp⟩
  | written hx h ih =>
    rename_i delay n v bytes
    obtain ⟨es, trace, noError, noResponse⟩ := ih
    refine ⟨es ++ .call (.write bytes) (.ok []) :: waited delay, ?_, ?_, ?_⟩
    · show (State.settle _ delay).trace = _
      rw [State.settle_trace, State.heard_trace, trace]
      simp [waited]
    · simp [waited, noError]
    · simp [waited, noResponse]

/-! ### What an ending records -/

/-- The operation has no call after this one. -/
def LastCall (cfg : Config) (i : Instr) (c : PortCall) : Prop :=
  match c with
  | .openPath _ => False
  | .write _ => ∃ opcode args, exchangeOf cfg i = .command opcode args
  | .setAddress _ | .read _ => True

/-- What is recorded of call `c`: nothing while it is outstanding, else its answer, a failure or the `Ok` of the
operation's last call. -/
def Answered (cfg : Config) (i : Instr) (c : PortCall) (es : List PortEvent) : Prop :=
  es = [] ∨ ∃ a, es = [.call c a] ∧ ((∃ e, a = .ioError e) ∨ LastCall cfg i c)

/-- An ending records nothing beyond the call that is reached and its answer. -/
theorem Ending.trace (h : Ending i u t) :
    ∃ v c es, Reaches i u v c ∧ t.trace = v.trace ++ es ∧ Answered u.cfg i c es := by
  cases h with
  | held h => exact ⟨_, _, [], h, by simp [State.polled], .inl rfl⟩
  | failed h | readFailed h => exact ⟨_, _, _, h, rfl, .inr ⟨_, rfl, .inl ⟨_, rfl⟩⟩⟩
  | corrupt h => exact ⟨_, _, _, h, rfl, .inr ⟨_, rfl, .inr trivial⟩⟩
  | committed h | addressed h => exact ⟨_, _, _, h, State.finish_trace .., .inr ⟨_, rfl, .inr trivial⟩⟩
  | sent h hx => exact ⟨_, _, _, h, State.finish_trace .., .inr ⟨_, rfl, .inr ⟨_, _, hx⟩⟩⟩

/-- The events `es` are a beginning of the calls of operation `i`'s row, from the one at which phase `p` holds it. -/
structure CallsFrom (cfg : Config) (i : Instr) (p : Phase) (es : List PortEvent) : Prop where
  command : ∀ opcode args, exchangeOf cfg i = .command opcode args → writeCalls opcode args es
  query : ∀ opcode delay n, exchangeOf cfg i = .query opcode delay n →
    (p ≠ .read → queryCalls opcode delay n es) ∧ (p = .read → readCalls n es)
  init : i = .init → (p ≠ .addr → initCalls cfg es) ∧ (p = .addr → addressCalls cfg es)

theorem callsFrom_nil (cfg : Config) (i : Instr) (p : Phase) : CallsFrom cfg i p [] :=
  ⟨fun _ _ _ => .inl rfl, fun _ _ _ _ => ⟨fun _ => .inl rfl, fun _ => .inl rfl⟩,
    fun _ => ⟨fun _ => .inl rfl, fun _ => .inl rfl⟩⟩

theorem callsFrom_of_command {cfg : Config} (hx : exchangeOf cfg i = .command opcode args)
    (h : writeCalls opcode args es) : CallsFrom cfg i p es where
  command opcode' args' hx' := by cases hx.symm.trans hx'; exact h
  query opcode' delay' n' hx' := by cases hx.symm.trans hx'
  init hi := by subst hi; cases hx

theorem callsFrom_of_query {cfg : Config} (hx : exchangeOf cfg i = .query opcode delay n)
    (fresh : p ≠ .read → queryCalls opcode delay n es) (held : p = .read → readCalls n es) : CallsFrom cfg i p es where
  command opcode' args' hx' := by cases hx.symm.trans hx'
  query opcode' delay' n' hx' := by cases hx.symm.trans hx'; exact ⟨fresh, held⟩
  init hi := by subst hi; cases hx

theorem callsFrom_of_init {cfg : Config} (fresh : p ≠ .addr → initCalls cfg es) (held : p = .addr → addressCalls cfg es) :
    CallsFrom cfg .init p es :=
  ⟨nofun, nofun, fun _ => ⟨fresh, held⟩⟩

theorem Answered.once {cfg : Config} (h : Answered cfg i c es) : es = [] ∨ ∃ a, es = [.call c a] :=
  h.imp_right fun ⟨a, ha, _⟩ => ⟨a, ha⟩

/-- A call that is not the operation's last is the last one recorded only when it failed. -/
theorem Answered.failed {cfg : Config} (h : Answered cfg i c es) (hc : ¬ LastCall cfg i c) :
    es = [] ∨ ∃ e, es = [.call c (.ioError e)] := by
  obtain rfl | ⟨a, rfl, ⟨e, rfl⟩ | last⟩ := h
  · exact .inl rfl
  · exact .inr ⟨e, rfl⟩
  · exact absurd last hc

theorem Reaches.transacts (h : Reaches i u v c) : Transacts u.cfg i := by
  cases h with
  | openPort hi | address hi | opened hi => exact .inl hi
  | encoded hx => exact .inr hx.exchange_ne_none
  | resumed hx => exact .inr hx
  | reading hx | written hx => exact transacts_of_exchange hx nofun

/-- What the calls of an operation record is a beginning of its row. -/
theorem Ending.callsFrom (h : Ending i u t) (frame : Framed i u) :
    ∃ es, t.trace = u.trace ++ es ∧ CallsFrom u.cfg i u.ph es ∧ Transacts u.cfg i := by
  obtain ⟨v, c, fs, reached, trace, answered⟩ := h.trace
  suffices h : ∃ es, t.trace = u.trace ++ es ∧ CallsFrom u.cfg i u.ph es from
    h.imp fun es ⟨trace, calls⟩ => ⟨trace, calls, reached.transacts⟩
  cases hx : exchangeOf u.cfg i with
  | none =>
    obtain rfl : i = .init := reached.transacts.resolve_right fun hn => hn hx
    obtain ⟨hp, rfl, before⟩ | ⟨rfl, ⟨hp, before⟩ | ⟨hp, before⟩⟩ := reached.of_init
    · exact ⟨fs, by rw [trace, before], callsFrom_of_init (fun _ => (answered.failed id).imp_right .inl) (absurd · hp)⟩
    · exact ⟨fs, by rw [trace, before], callsFrom_of_init (absurd hp) fun _ => answered.once⟩
    · exact ⟨_ :: fs, by simp [trace, before],
        callsFrom_of_init (fun _ => .inr (.inr ⟨fs, answered.once, rfl⟩)) (absurd · hp)⟩
  | command opcode args =>
    obtain ⟨rfl, before⟩ := reached.of_command hx frame
    exact ⟨fs, by rw [trace, before], callsFrom_of_command hx answered.once⟩
  | query opcode delay n =>
    obtain ⟨hp, rfl, before⟩ | ⟨rfl, ⟨hp, before⟩ | ⟨hp, before⟩⟩ := reached.of_query hx frame
    · have failed := answered.failed (by simp [LastCall, hx])
      exact ⟨fs, by rw [trace, before], callsFrom_of_query hx (fun _ => failed.imp_right .inl) (absurd · hp)⟩
    · exact ⟨fs, by rw [trace, before], callsFrom_of_query hx (absurd hp) fun _ => answered.once⟩
    · exact ⟨wrote opcode [] :: (waited delay ++ fs), by simp [trace, before],
        callsFrom_of_query hx (fun _ => .inr (.inr ⟨fs, answered.once, rfl⟩)) (absurd · hp)⟩

/-! ### The whole operation -/

theorem UnitEnding.trace (h : UnitEnding i u t) : t.trace = u.trace := by
  cases h with
  | checksum | encoded => rfl
  | decoded =>
    unfold State.decodeTriplets
    split <;> rfl

theorem Enters.framed (h : Enters i s u) (frame : s.ph ≠ .ready → Framed i s) : Framed i u := by
  cases h with
  | accepted hr => exact fun hp => absurd hp (accept_ph_ne hr nofun nofun)
  | resumed hr => exact frame hr

/-- What an operation records, presented where a held write's frame stands in `TXB`: a beginning of its row, and nothing
where its guard does not let it run. -/
theorem exec_callsFrom (h : exec i s = .next t) (frame : s.ph ≠ .ready → Framed i s) :
    ∃ u es, Enters i s u ∧ t.trace = s.trace ++ es ∧ CallsFrom s.cfg i u.ph es ∧
      (es = [] ∨ guardCell i s.ls = .run ∧ Transacts s.cfg i) := by
  obtain ⟨u, hu, he⟩ := exec_next h
  have silent (ht : t.trace = u.trace) : ∃ u es, Enters i s u ∧ t.trace = s.trace ++ es ∧ CallsFrom s.cfg i u.ph es ∧
      (es = [] ∨ guardCell i s.ls = .run ∧ Transacts s.cfg i) :=
    ⟨u, [], hu, by rw [ht, hu.trace, List.append_nil], callsFrom_nil _ _ _, .inl rfl⟩
  obtain (_ | _ | ⟨run, -, ending⟩) | unit := he
  · exact silent rfl
  · exact silent rfl
  · obtain ⟨es, trace, calls, ht⟩ := ending.callsFrom (hu.framed frame)
    rw [hu.trace] at trace
    rw [hu.cfg] at calls ht
    exact ⟨u, es, hu, trace, calls, .inr ⟨hu.ls ▸ run, ht⟩⟩
  · exact silent unit.trace

/-- Settles O44. -/
theorem operationsMakeOnlyTheirPortCalls : Obligations.OperationsMakeOnlyTheirPortCalls := by
  unfold Obligations.OperationsMakeOnlyTheirPortCalls
  refine ⟨fun i s t hr h => ?_, fun i s t hi hc h => ?_⟩
  · obtain ⟨u, es, hu, trace, ⟨command, query, init⟩, silent⟩ := exec_callsFrom h (absurd hr)
    have fresh {p : Phase} (hg : p ≠ .guard) (hp : p ≠ .ready) : u.ph ≠ p := by
      cases hu with
      | accepted => exact accept_ph_ne hr hg hp
      | resumed hn => exact absurd hr hn
    exact ⟨es, trace, fun hg => silent.resolve_right fun ran => hg ran.1,
      fun hi hx => silent.resolve_right fun ran => ran.2.elim hi fun hn => hn hx, command,
      fun opcode delay n hx => (query opcode delay n hx).1 (fresh nofun nofun),
      fun hi => (init hi).1 (fresh nofun nofun)⟩
  · obtain ⟨-, hr, -, -, hp, frame⟩ := inv_inProgress hi hc
    obtain ⟨u, es, hu, trace, ⟨command, query, init⟩, -⟩ := exec_callsFrom h fun _ _ => frame
    obtain rfl : u = s := by
      cases hu with
      | accepted hr' => exact absurd hr' hr
      | resumed => rfl
    refine ⟨es, trace, command, fun opcode delay n hx => ?_, fun hi => ?_⟩
    · obtain ⟨fresh, held⟩ := query opcode delay n hx
      rw [heldPhases_query hx, List.mem_pair] at hp
      exact ⟨fun hw => fresh (by simp [hw]), fun hw => held (hp.resolve_left hw)⟩
    · obtain ⟨fresh, held⟩ := init hi
      rw [hi, heldPhases_init, List.mem_pair] at hp
      exact ⟨fun ho => fresh (by simp [ho]), fun ho => held (hp.resolve_left ho)⟩

end Sys2Proof.Machine
end

section
/-! What an operation leaves unchanged (40_checksum.md rules R80 and R81, 41_codec.md rules R90 and R91, 42_executor.md
rules R100 to R105, 43_lifecycle.md rules R120 to R132). -/

namespace Sys2Proof.Machine

variable {i : Instr} {s t u v : State} {c : PortCall} {opcode : Word} {args : List Word} {delay n : Nat}
  {es : List PortEvent}

/-- An operation that is no host operation is accepted without an envelope. -/
theorem Enters.unit (h : Enters i s u) (hi : i.isHostOp = false) : ∃ r j, u = { s with ret := r, cur := j } := by
  cases h with
  | accepted hr =>
    have accept : s.accept i = s.acceptUnit i := if_neg (by simp [hi])
    exact ⟨none, some i, accept⟩
  | resumed => exact ⟨_, _, rfl⟩

/-! ### The codec and the checksum engine -/

theorem unitEnding_of_checksum {b0 b1 c : Byte} (hi : i = .generateChecksum b0 b1 ∨ i = .verifyChecksum b0 b1 c)
    (h : UnitEnding i u t) : t = { u with crc := t.crc, ret := t.ret, ph := t.ph, cur := t.cur } := by
  cases h with
  | checksum => rfl
  | encoded hi' | decoded hi' => simp [hi'] at hi

theorem unitEnding_of_encode (h : UnitEnding (.encode opcode args) u t) :
    t = { u with txb := t.txb, txlen := t.txlen, idx := t.idx, crc := t.crc, ret := t.ret, ph := t.ph, cur := t.cur } := by
  cases h with
  | encoded => rfl
  | checksum hi => simp at hi
  | decoded hi => cases hi

theorem unitEnding_of_decode (h : UnitEnding (.decode n) u t) :
    ∃ ts, t = u.decodeTriplets n ts fun s => s.returnUnit .ok := by
  cases h with
  | decoded hi => cases hi; exact ⟨_, rfl⟩
  | checksum hi => simp at hi
  | encoded hi => cases hi

/-- Settles O45. -/
theorem codecAndEngineFrame : Obligations.CodecAndEngineFrame := by
  unfold Obligations.CodecAndEngineFrame
  refine ⟨fun b0 b1 c s t h => ?_, fun n s t h => ?_, fun opcode args s t h => ?_⟩
  · obtain h | h := h
    · obtain ⟨u, hu, he⟩ := execGenerateChecksum_next h
      obtain ⟨r, j, rfl⟩ := hu.unit rfl
      have frame := unitEnding_of_checksum (c := c) (.inl rfl) he
      exact frame
    · obtain ⟨u, hu, he⟩ := execVerifyChecksum_next h
      obtain ⟨r, j, rfl⟩ := hu.unit rfl
      have frame := unitEnding_of_checksum (.inr rfl) he
      exact frame
  · obtain ⟨u, hu, he⟩ := execDecode_next h
    obtain ⟨r, j, rfl⟩ := hu.unit rfl
    obtain ⟨ts, rfl⟩ := unitEnding_of_decode he
    cases hk : firstBad ts with
    | none =>
      rw [decodeTriplets_ok _ _ _ _ hk]
      exact ⟨rfl, rfl, rfl, rfl, rfl, rfl, rfl, rfl, fun _ => rfl, fun _ => rfl,
        .inr ⟨rfl, rfl, rfl, rfl, rfl, rfl, rfl, rfl⟩⟩
    | some k =>
      rw [decodeTriplets_bad _ _ _ _ _ hk]
      exact ⟨rfl, rfl, rfl, rfl, rfl, rfl, rfl, rfl, fun _ => rfl, fun _ => rfl, .inl rfl⟩
  · obtain ⟨u, hu, he⟩ := execEncode_next h
    obtain ⟨r, j, rfl⟩ := hu.unit rfl
    have frame := unitEnding_of_encode he
    exact frame

/-! ### `TXB` over the calls -/

/-- An operation whose calls are all to come has its frame in `TXB` when a call is reached. -/
theorem Reaches.txb_of_fresh (h : Reaches i u v c) (hx : Sends u.cfg i opcode args) (hw : u.ph ≠ .write)
    (hr : u.ph ≠ .read) : v.txb = bufferOf (frameOf opcode args) ∧ v.txlen = 2 + 3 * args.length := by
  induction h with
  | openPort hi | address hi | opened hi => subst hi; exact absurd rfl hx.exchange_ne_none
  | encoded hs =>
    obtain ⟨rfl, rfl⟩ := hs.unique hx
    rw [encodeFrame_eq_framed]
    exact ⟨rfl, rfl⟩
  | resumed _ hp => exact absurd hp hw
  | reading _ hp => exact absurd hp hr
  | written hx' h ih => simpa [State.heard, State.polled, State.record] using ih

/-- Once the frame is in `TXB` it stays there, and init writes no buffer. -/
theorem Reaches.txb_of_held (h : Reaches i u v c)
    (held : i = .init ∨ u.ph = .write ∨ u.ph = .read ∧ ∃ opcode delay n, exchangeOf u.cfg i = .query opcode delay n) :
    v.txb = u.txb ∧ v.txlen = u.txlen := by
  induction h with
  | encoded hs hw hr =>
    obtain hi | hp | ⟨hp, opcode, delay, n, hx⟩ := held
    · subst hi; exact absurd rfl hs.exchange_ne_none
    · exact absurd hp hw
    · obtain ⟨rfl, -⟩ := hs.unique (.inr ⟨rfl, delay, n, hx⟩)
      exact absurd hp (hr ⟨delay, n, hx⟩)
  | written hx h ih => simpa [State.heard, State.polled, State.record] using ih
  | _ => exact ⟨rfl, rfl⟩

/-- No ending writes `TXB` after the call that is reached. -/
theorem Ending.txb (h : Ending i u t) : ∃ v c, Reaches i u v c ∧ t.txb = v.txb ∧ t.txlen = v.txlen := by
  cases h with
  | committed h | sent h | addressed h => exact ⟨_, _, h, State.finish_txb .., State.finish_txlen ..⟩
  | held h => exact ⟨_, _, h, rfl, rfl⟩
  | failed h | readFailed h | corrupt h => exact ⟨_, _, h, State.raise_txb .., State.raise_txlen ..⟩

theorem BodyEnding.txb_of_fresh (h : BodyEnding i u t) (hx : Sends u.cfg i opcode args) (hw : u.ph ≠ .write)
    (hr : u.ph ≠ .read) (run : guardCell i u.ls = .run) :
    t.txb = bufferOf (frameOf opcode args) ∧ t.txlen = 2 + 3 * args.length := by
  cases h with
  | stateError h | noOp h => simp [h] at run
  | ran _ _ he =>
    obtain ⟨v, c, reached, htxb, hlen⟩ := he.txb
    rw [htxb, hlen]
    exact reached.txb_of_fresh hx hw hr

theorem BodyEnding.txb_of_held (h : BodyEnding i u t)
    (held : guardCell i u.ls = .run → i = .init ∨ u.ph = .write ∨
      u.ph = .read ∧ ∃ opcode delay n, exchangeOf u.cfg i = .query opcode delay n) :
    t.txb = u.txb ∧ t.txlen = u.txlen := by
  cases h with
  | stateError | noOp => exact ⟨rfl, rfl⟩
  | ran run _ he =>
    obtain ⟨v, c, reached, htxb, hlen⟩ := he.txb
    rw [htxb, hlen]
    exact reached.txb_of_held (held run)

/-! ### `RXB` over the calls -/

/-- Operation `i` reads a response of `n` words. -/
def ReadsWords (cfg : Config) (i : Instr) (n : Nat) : Prop := ∃ opcode delay, exchangeOf cfg i = .query opcode delay n

/-- What an operation that has recorded its events does to `RXB`, by the last of them: nothing without a read, and by the
read's answer it holds nothing or the response. -/
inductive Response (i : Instr) (u t : State) : Prop where
  | unread (es : List PortEvent) (trace : t.trace = u.trace ++ es) (hes : ∀ m a, PortEvent.call (.read m) a ∉ es)
      (hrxb : t.rxb = u.rxb) (hlen : t.rxlen = u.rxlen)
  | failed (n : Nat) (e : IoError) (es : List PortEvent) (hx : ReadsWords u.cfg i n)
      (trace : t.trace = u.trace ++ es ++ [.call (.read (3 * n)) (.ioError e)]) (hrxb : t.rxb = []) (hlen : t.rxlen = 0)
  | answered (n : Nat) (bs es : List _) (hx : ReadsWords u.cfg i n)
      (trace : t.trace = u.trace ++ es ++ [.call (.read (3 * n)) (.ok bs)]) (hrxb : t.rxb = bufferOf bs)
      (hlen : t.rxlen = 3 * n)

theorem loadResponse_rxb_eq_bufferOf (s : State) (n : Nat) (bs : List Byte) : (s.loadResponse n bs).rxb = bufferOf bs := by
  rw [loadResponse_eq_received]
  rfl

theorem State.corrupted_rxb (s : State) (n k : Nat) (bs : List Byte) : (s.corrupted n k bs).rxb = bufferOf bs :=
  loadResponse_rxb_eq_bufferOf s n bs

theorem State.committed_rxb (s : State) (n : Nat) (bs : List Byte) : (s.committed n bs).rxb = bufferOf bs :=
  loadResponse_rxb_eq_bufferOf s n bs

theorem Ending.response (h : Ending i u t) : Response i u t := by
  cases h with
  | held h =>
    obtain ⟨es, trace, -, noResponse⟩ := h.quiet
    exact .unread es trace noResponse (by rw [h.frame]; rfl) (by rw [h.frame]; rfl)
  | @failed v c h hc e =>
    obtain ⟨es, trace, -, noResponse⟩ := h.quiet
    refine .unread (es ++ [.call c (.ioError e)]) (by simp [trace]) ?_ (by rw [h.frame]; rfl) (by rw [h.frame]; rfl)
    simp only [List.mem_append, List.mem_singleton, PortEvent.call.injEq, not_or]
    exact fun m a => ⟨noResponse m a, fun eq => hc m eq.1.symm⟩
  | readFailed h e =>
    obtain ⟨es, trace, -⟩ := h.quiet
    obtain ⟨opcode, delay, n, hx, rfl⟩ := h.of_read
    exact .failed n e es ⟨opcode, delay, hx⟩ (by simp [trace, State.dropResponse]) rfl rfl
  | corrupt h =>
    obtain ⟨es, trace, -⟩ := h.quiet
    exact .answered _ _ es h.of_readWords (by simp [trace])
      ((State.raise_rxb ..).trans (State.corrupted_rxb ..)) rfl
  | @committed v n bs h =>
    obtain ⟨es, trace, -⟩ := h.quiet
    exact .answered n bs es h.of_readWords (by simp [trace])
      ((State.finish_rxb ..).trans (State.committed_rxb ..)) (State.finish_rxlen ..)
  | sent h hx =>
    obtain ⟨es, trace, -, noResponse⟩ := h.quiet
    exact .unread (es ++ [_]) (by simp [trace]; rfl) (by simp [noResponse]) (by rw [State.finish_rxb, h.frame]; rfl)
      (by rw [State.finish_rxlen, h.frame]; rfl)
  | addressed h =>
    obtain ⟨es, trace, -, noResponse⟩ := h.quiet
    exact .unread (es ++ [_]) (by simp [trace]; rfl) (by simp [noResponse]) (by rw [State.finish_rxb, h.frame]; rfl)
      (by rw [State.finish_rxlen, h.frame]; rfl)

theorem BodyEnding.response (h : BodyEnding i u t) : Response i u t := by
  cases h with
  | stateError => exact .unread [] (by simp) (by simp) rfl rfl
  | noOp => exact .unread [] (by simp) (by simp) rfl rfl
  | ran _ _ he => exact he.response

theorem ReadsWords.unique {cfg : Config} {m : Nat} (h : ReadsWords cfg i m) (h' : ReadsWords cfg i n) : m = n := by
  obtain ⟨opcode, delay, h⟩ := h
  obtain ⟨opcode', delay', h'⟩ := h'
  cases h.symm.trans h'
  rfl

/-- `RXB` is as it was unless the last event is the read's answer. -/
theorem Response.rxb_of_unread (h : Response i u t) (hx : ReadsWords u.cfg i n) (trace : t.trace = u.trace ++ es)
    (last : ∀ a, es.getLast? ≠ some (.call (.read (3 * n)) a)) : t.rxb = u.rxb ∧ t.rxlen = u.rxlen := by
  cases h with
  | unread _ _ _ hrxb hlen => exact ⟨hrxb, hlen⟩
  | failed m _ fs hm trace' | answered m _ fs hm trace' =>
    obtain rfl := hm.unique hx
    rw [trace, List.append_assoc, List.append_cancel_left_eq] at trace'
    exact absurd (by rw [trace', List.getLast?_concat]) (last _)

/-- After the read's answer `RXB` holds nothing or the response. -/
theorem Response.rxb_of_answer {a : PortAnswer} (h : Response i u t) (hx : ReadsWords u.cfg i n)
    (trace : t.trace = u.trace ++ es ++ [.call (.read (3 * n)) a]) :
    (∃ e, a = .ioError e ∧ t.rxb = [] ∧ t.rxlen = 0) ∨
      ∃ bs, a = .ok bs ∧ t.rxb = bufferOf bs ∧ t.rxlen = 3 * n := by
  cases h with
  | unread fs trace' hes =>
    rw [trace, List.append_assoc, List.append_cancel_left_eq] at trace'
    exact absurd (by simp [← trace']) (hes (3 * n) a)
  | failed m e fs hm trace' hrxb hlen =>
    obtain rfl := hm.unique hx
    obtain ⟨-, answer⟩ : es = fs ∧ a = .ioError e := by simpa using trace.symm.trans trace'
    exact .inl ⟨e, answer, hrxb, hlen⟩
  | answered m bs fs hm trace' hrxb hlen =>
    obtain rfl := hm.unique hx
    obtain ⟨-, answer⟩ : es = fs ∧ a = .ok bs := by simpa using trace.symm.trans trace'
    exact .inr ⟨bs, answer, hrxb, hlen⟩

/-! ### The results, the words and the lifecycle -/

/-- The status registers and the payload registers are as they were. -/
abbrev KeepsResults (s t : State) : Prop :=
  t.st = s.st ∧ t.errIdx = s.errIdx ∧ t.ioErr = s.ioErr ∧ t.rbool = s.rbool ∧ t.ru32 = s.ru32 ∧ t.rstr = s.rstr ∧
    t.rstrlen = s.rstrlen ∧ t.rrec = s.rrec

theorem Reaches.keepsResults (h : Reaches i u v c) : KeepsResults u v := by
  rw [h.frame]
  exact ⟨rfl, rfl, rfl, rfl, rfl, rfl, rfl, rfl⟩

theorem Reaches.words (h : Reaches i u v c) : v.w = u.w ∧ v.nw = u.nw := by
  rw [h.frame]
  exact ⟨rfl, rfl⟩

/-- Only an error writes the results of an operation that is no host operation, and a ChecksumError only after a read. -/
theorem Ending.results (h : Ending i u t) (hi : i.isHostOp = false) :
    t.st = .transportError ∨ t.st = .checksumError ∧ (∃ n, ReadsWords u.cfg i n) ∨ KeepsResults u t := by
  cases h with
  | held h => exact .inr (.inr h.keepsResults)
  | failed h | readFailed h => exact .inl rfl
  | corrupt h => exact .inr (.inl ⟨rfl, _, h.of_readWords⟩)
  | committed h | sent h | addressed h =>
    rw [finish_unit hi]
    exact .inr (.inr h.keepsResults)

/-- An operation that reads no response leaves the words. -/
theorem Ending.words (h : Ending i u t) (hx : ∀ n, ¬ ReadsWords u.cfg i n) : t.w = u.w ∧ t.nw = u.nw := by
  cases h with
  | held h => exact h.words
  | failed h _ e => exact h.words
  | readFailed h =>
    obtain ⟨opcode, delay, n, h, -⟩ := h.of_read
    exact absurd ⟨opcode, delay, h⟩ (hx n)
  | corrupt h | committed h => exact absurd h.of_readWords (hx _)
  | sent h | addressed h =>
    rw [State.finish_w, State.finish_nw]
    exact h.words

theorem Ending.requests (h : Ending i u t) : t.requests = u.requests := by
  cases h with
  | held h => exact h.requests
  | failed h | readFailed h | corrupt h => exact (State.raise_requests ..).trans h.requests
  | committed h | sent h | addressed h => exact (State.finish_requests ..).trans h.requests

theorem BodyEnding.requests (h : BodyEnding i u t) : t.requests = u.requests := by
  cases h with
  | stateError | noOp => rfl
  | ran _ _ he => exact he.requests

/-- An operation that is no host operation has no guard. -/
theorem BodyEnding.ending (h : BodyEnding i u t) (hi : i.isHostOp = false) : Ending i u t := by
  have run := guardCell_of_not_hostOp hi u.ls
  cases h with
  | stateError h | noOp h => simp [h] at run
  | ran _ _ he => exact he

theorem exec_ls (h : exec i s = .next t) (hi : i ≠ .init) (hstart : i ≠ .start) (hstop : i ≠ .stop) : t.ls = s.ls := by
  obtain ls | ⟨-, -, ⟨rfl, -⟩ | ⟨rfl, -⟩ | ⟨rfl, -⟩⟩ := exec_movesLs h
  · exact ls
  · exact absurd rfl hi
  · exact absurd rfl hstart
  · exact absurd rfl hstop

/-! ### The statements -/

theorem Enters.ready (h : Enters i s u) (hr : s.ph = .ready) : u.ph ≠ .write ∧ u.ph ≠ .read := by
  cases h with
  | accepted => exact ⟨accept_ph_ne hr nofun nofun, accept_ph_ne hr nofun nofun⟩
  | resumed hn => exact absurd hr hn

theorem Enters.eq_of_held (h : Enters i s u) (hr : s.ph ≠ .ready) : u = s := by
  cases h with
  | accepted hr' => exact absurd hr' hr
  | resumed => rfl

/-- The buffer holds exactly these bytes. -/
theorem read_of_eq_bufferOf {m : Memory} {bs : List Byte} (h : m = bufferOf bs) (a : Nat) : Memory.read m a = bs[a]? := by
  rw [h, Memory.read_bufferOf]

/-- Settles O46. -/
theorem writingOperationsFrame : Obligations.WritingOperationsFrame := by
  unfold Obligations.WritingOperationsFrame
  intro i s t opcode args hx h
  have ht : Transacts s.cfg i := hx.imp_right fun hx => by simp [hx]
  have noRead (n : Nat) : ¬ ReadsWords s.cfg i n := by
    rintro ⟨opcode', delay, hx'⟩
    obtain rfl | hx := hx
    · cases hx'
    · cases hx.symm.trans hx'
  obtain ⟨u, hu, he⟩ := exec_bodyEnding ht h
  refine ⟨(exec_extends h).1, he.requests.trans hu.requests, ?_⟩
  have rxb : t.rxb = s.rxb ∧ t.rxlen = s.rxlen := by
    rw [← hu.rxb, ← hu.rxlen]
    cases he.response with
    | unread _ _ _ hrxb hlen => exact ⟨hrxb, hlen⟩
    | failed n _ _ hx | answered n _ _ hx => exact absurd (hu.cfg ▸ hx) (noRead n)
  refine ⟨rxb.2, fun a => by rw [rxb.1], exec_ls h, fun hi hr run => ?_, fun held => ?_, fun hi => ?_⟩
  · obtain ⟨hw, hr⟩ := hu.ready hr
    obtain ⟨htxb, hlen⟩ := he.txb_of_fresh (.inl (hu.cfg ▸ hx.resolve_left hi)) hw hr (hu.ls ▸ run)
    exact ⟨hlen, read_of_eq_bufferOf htxb⟩
  · have kept : t.txb = u.txb ∧ t.txlen = u.txlen := by
      refine he.txb_of_held fun run => ?_
      obtain hi | hw | hg := held
      · exact .inl hi
      · rw [hu.eq_of_held (by simp [hw])]
        exact .inr (.inl hw)
      · exact absurd (hu.ls ▸ run) hg
    rw [← hu.txb, ← hu.txlen]
    exact ⟨kept.2, fun a => by rw [kept.1]⟩
  · obtain ⟨r, j, rfl⟩ := hu.unit hi
    have he := he.ending hi
    obtain ⟨hw, hn⟩ := he.words noRead
    refine ⟨hw, hn, ?_⟩
    obtain hst | ⟨-, n, hx⟩ | kept := he.results hi
    · exact .inl hst
    · exact absurd hx (noRead n)
    · exact .inr kept

/-- Settles O47. -/
theorem readingOperationsFrame : Obligations.ReadingOperationsFrame := by
  unfold Obligations.ReadingOperationsFrame
  intro i s t opcode delay n hx h
  obtain ⟨u, hu, he⟩ := exec_bodyEnding (transacts_of_exchange hx nofun) h
  have hx' : exchangeOf u.cfg i = .query opcode delay n := hu.cfg ▸ hx
  have reads : ReadsWords u.cfg i n := ⟨opcode, delay, hx'⟩
  have response := he.response
  refine ⟨exec_ls h ?_ ?_ ?_, (exec_extends h).1, he.requests.trans hu.requests, fun hr run => ?_, fun held => ?_,
    fun es trace last => ?_, fun es bs trace => ?_, fun es e trace => ?_, fun hi => ?_⟩
  · rintro rfl; cases hx
  · rintro rfl; cases hx
  · rintro rfl; cases hx
  · obtain ⟨hw, hr⟩ := hu.ready hr
    obtain ⟨htxb, hlen⟩ := he.txb_of_fresh (.inr ⟨rfl, delay, n, hx'⟩) hw hr (hu.ls ▸ run)
    exact ⟨hlen, read_of_eq_bufferOf htxb⟩
  · have kept : t.txb = u.txb ∧ t.txlen = u.txlen := by
      refine he.txb_of_held fun run => ?_
      obtain hw | hr | hg := held
      · rw [hu.eq_of_held (by simp [hw])]
        exact .inr (.inl hw)
      · rw [hu.eq_of_held (by simp [hr])]
        exact .inr (.inr ⟨hr, opcode, delay, n, hx⟩)
      · exact absurd (hu.ls ▸ run) hg
    rw [← hu.txb, ← hu.txlen]
    exact ⟨kept.2, fun a => by rw [kept.1]⟩
  · obtain ⟨hrxb, hlen⟩ := response.rxb_of_unread reads (hu.trace ▸ trace) last
    rw [← hu.rxb, ← hu.rxlen]
    exact ⟨hlen, fun a => by rw [hrxb]⟩
  · obtain ⟨e, ⟨⟩, -⟩ | ⟨bs, ⟨⟩, hrxb, hlen⟩ := response.rxb_of_answer reads (hu.trace ▸ trace)
    exact ⟨hlen, read_of_eq_bufferOf hrxb⟩
  · obtain ⟨e, ⟨⟩, hrxb, hlen⟩ | ⟨bs, ⟨⟩, -⟩ := response.rxb_of_answer reads (hu.trace ▸ trace)
    exact ⟨hlen, fun a => by rw [hrxb]; rfl⟩
  · obtain ⟨r, j, rfl⟩ := hu.unit hi
    exact (he.ending hi).results hi |>.imp_right (Or.imp_left And.left)

end Sys2Proof.Machine
end

section
/-! What an operation's outcome does not depend on (42_executor.md rule R104, 10_state.md rules R22, R27 and R29): a part of
the state that no stage of the calls looks at, and that is put out of sight by a view `E`. States with the same view are
taken to states with the same view. -/

namespace Sys2Proof.Machine

variable {i : Instr} {s t u v : State} {c : PortCall} {opcode : Word} {args : List Word} {bytes : List Byte}
  {delay n : Nat} {E : State → State} {f : State → State}

/-! ### A view of the state -/

/-- The outcome, its next state viewed by `E`. -/
def viewed (E : State → State) (r : Result) : Result :=
  match r with
  | .next s => .next (E s)
  | .fault f => .fault f
  | .refused e => .refused e

theorem viewed_next (h : E s = E t) : viewed E (.next s) = viewed E (.next t) := congrArg Host.Outcome.next h

theorem viewed_eq_next {r : Result} (h : viewed E r = .next v) : ∃ t, r = .next t ∧ E t = v := by
  cases r with
  | next t => exact ⟨t, rfl, Host.Outcome.next.inj h⟩
  | fault | refused => cases h

/-- States with the same view are taken to states with the same view. -/
def Respects (E f : State → State) : Prop := ∀ s t, E s = E t → E (f s) = E (f t)

/-- An operation on the state that acts on the view. -/
theorem Respects.of_view {g : State → State} (h : ∀ s, E (f s) = g (E s)) : Respects E f := fun s t hst => by
  rw [h, h, hst]

theorem Respects.comp {g : State → State} (hg : Respects E g) (hf : Respects E f) : Respects E fun s => g (f s) :=
  fun _ _ h => hg _ _ (hf _ _ h)

/-- The view shows the port and the sequencer, and what the stages of the calls do to it depends on it alone. -/
structure Blind (E : State → State) : Prop where
  port : ∀ s, (E s).ph = s.ph ∧ (E s).cfg = s.cfg ∧ (E s).script = s.script ∧ (E s).polls = s.polls ∧ (E s).trace = s.trace
  polled : Respects E State.polled
  record : ∀ e, Respects E (State.record · e)
  phase : ∀ p, p ≠ .ready → Respects E fun s => { s with ph := p }
  raise : ∀ e, Respects E (State.raise · e)
  returnOk : Respects E State.returnOk
  dropResponse : Respects E State.dropResponse
  encodeFrame : ∀ opcode args, Respects E (State.encodeFrame · opcode args)
  corrupted : ∀ n k bs, Respects E (State.corrupted · n k bs)
  committed : ∀ n bs, Respects E (State.committed · n bs)

/-! ### The stages of the calls -/

theorem Blind.port_eq (hE : Blind E) (h : E s = E t) :
    s.ph = t.ph ∧ s.cfg = t.cfg ∧ s.script = t.script ∧ s.polls = t.polls ∧ s.trace = t.trace := by
  obtain ⟨sph, scfg, sscript, spolls, strace⟩ := hE.port s
  obtain ⟨tph, tcfg, tscript, tpolls, ttrace⟩ := hE.port t
  rw [← sph, ← scfg, ← sscript, ← spolls, ← strace, h]
  exact ⟨tph, tcfg, tscript, tpolls, ttrace⟩

theorem Blind.portCall {onError : IoError → State → State} {onBytes : List Byte → State → State} (hE : Blind E)
    (error : ∀ e, Respects E (onError e)) (ok : ∀ bs, Respects E (onBytes bs)) :
    Respects E (portCall c onError onBytes) := by
  intro s t h
  obtain ⟨-, -, script, polls, trace⟩ := hE.port_eq h
  have reply : s.reply c = t.reply c := by rw [State.reply, State.reply, script, polls, trace]
  rw [Machine.portCall, Machine.portCall, ← reply]
  have heard (a : PortAnswer) := hE.record (.call c a) _ _ (hE.polled s t h)
  split
  · exact hE.polled _ _ h
  · exact error _ _ _ (heard _)
  · exact ok _ _ _ (heard _)

theorem Blind.settle (hE : Blind E) (us : Nat) : Respects E (State.settle · us) := by
  unfold State.settle
  split
  · exact fun _ _ h => h
  · exact (hE.record _).comp (hE.phase .wait nofun)

theorem Blind.readStage (hE : Blind E) (hf : Respects E f) : Respects E (State.readStage · n f) := by
  refine (hE.portCall (fun e => (hE.raise _).comp hE.dropResponse) fun bs => ?_).comp (hE.phase .read nofun)
  cases hk : firstBad (tripletsOf bs) with
  | none =>
    simp only [decodeTriplets_ok _ _ _ _ hk]
    exact hf.comp (hE.committed n bs)
  | some k =>
    simp only [decodeTriplets_bad _ _ _ _ _ hk]
    exact (hE.raise _).comp (hE.corrupted n k bs)

theorem Blind.writeStage (hE : Blind E) (hf : Respects E f) : Respects E (State.writeStage · bytes f) :=
  (hE.portCall (fun _ => hE.raise _) fun _ => hf).comp (hE.phase .write nofun)

/-- Where the write is outstanding, the bytes in `TXB` are the same. -/
abbrev SameFrame (s t : State) : Prop := s.ph = .write → s.txb = t.txb ∧ s.txlen = t.txlen

theorem Blind.sendCommand (hE : Blind E) (hf : Respects E f) (h : E s = E t) (frame : SameFrame s t) :
    viewed E (s.sendCommand opcode args f) = viewed E (t.sendCommand opcode args f) := by
  obtain ⟨ph, -⟩ := hE.port_eq h
  by_cases hw : s.ph = .write
  · obtain ⟨htxb, hlen⟩ := frame hw
    simp only [State.sendCommand, if_pos hw, if_pos (ph ▸ hw), htxb, hlen]
    cases Memory.readBytes t.txb 0 t.txlen with
    | none => rfl
    | some bytes => exact viewed_next (hE.writeStage hf _ _ h)
  · rw [sendCommand_fresh _ _ _ _ hw, sendCommand_fresh _ _ _ _ (ph ▸ hw)]
    exact viewed_next (((hE.writeStage hf).comp (hE.encodeFrame opcode args)) _ _ h)

theorem Blind.query (hE : Blind E) (hf : Respects E f) (h : E s = E t) (frame : SameFrame s t) :
    viewed E (s.query opcode delay n f) = viewed E (t.query opcode delay n f) := by
  obtain ⟨ph, -⟩ := hE.port_eq h
  rw [State.query, State.query, ← ph]
  split
  · exact viewed_next (hE.readStage hf _ _ h)
  · exact hE.sendCommand ((hE.readStage hf).comp (hE.settle delay)) h frame

theorem Blind.addressStage (hE : Blind E) (finish : Respects E (State.finish .init)) : Respects E State.addressStage := by
  intro s t h
  obtain ⟨-, cfg, -⟩ := hE.port_eq h
  rw [State.addressStage, State.addressStage, show t.cfg.busAddr = s.cfg.busAddr by rw [cfg]]
  exact ((hE.portCall (fun _ => hE.raise _) fun _ => finish).comp (hE.phase .addr nofun)) _ _ h

theorem Blind.openStage (hE : Blind E) (finish : Respects E (State.finish .init)) : Respects E State.openStage := by
  intro s t h
  obtain ⟨-, cfg, -⟩ := hE.port_eq h
  rw [State.openStage, State.openStage, show t.cfg.busPath = s.cfg.busPath by rw [cfg]]
  exact ((hE.portCall (fun _ => hE.raise _) fun _ => hE.addressStage finish).comp (hE.phase .openPort nofun)) _ _ h

/-! ### The operation -/

theorem Blind.calls (hE : Blind E) (ht : Transacts s.cfg i) (finish : Respects E (State.finish i)) (h : E s = E t)
    (frame : SameFrame s t) : viewed E (s.calls i) = viewed E (t.calls i) := by
  obtain ⟨ph, cfg, -⟩ := hE.port_eq h
  cases hx : exchangeOf s.cfg i with
  | none =>
    obtain rfl : i = .init := ht.resolve_right fun hn => hn hx
    rw [calls_init, calls_init, ← ph]
    split
    · exact viewed_next (hE.addressStage finish _ _ h)
    · exact viewed_next (hE.openStage finish _ _ h)
  | command =>
    rw [calls_command hx, calls_command (cfg ▸ hx)]
    exact hE.sendCommand finish h frame
  | query =>
    rw [calls_query hx, calls_query (cfg ▸ hx)]
    exact hE.query finish h frame

theorem Blind.transact (hE : Blind E) (ht : Transacts s.cfg i) (finish : Respects E (State.finish i)) (h : E s = E t)
    (guard : guardCell i s.ls = guardCell i t.ls) (frame : SameFrame s t) :
    viewed E (s.transact i) = viewed E (t.transact i) := by
  obtain ⟨-, cfg, -⟩ := hE.port_eq h
  rw [State.transact, State.transact, ← guard, ← cfg]
  split
  · exact viewed_next (hE.raise _ _ _ h)
  · exact viewed_next (hE.returnOk _ _ h)
  · split
    · exact hE.calls ht finish h frame
    · rfl

/-! ### The lifecycle state -/

/-- The view without the lifecycle state. -/
def State.withoutLs (s : State) : State := { s with ls := .uninitialized }

theorem blind_withoutLs : Blind State.withoutLs where
  port _ := ⟨rfl, rfl, rfl, rfl, rfl⟩
  polled := .of_view (g := State.polled) fun _ => rfl
  record e := .of_view (g := (State.record · e)) fun _ => rfl
  phase p _ := .of_view (g := fun s => { s with ph := p }) fun _ => rfl
  raise e := .of_view (g := (State.raise · e)) fun _ => by cases e <;> rfl
  returnOk := .of_view (g := State.returnOk) fun _ => rfl
  dropResponse := .of_view (g := State.dropResponse) fun _ => rfl
  encodeFrame opcode args := .of_view (g := (State.encodeFrame · opcode args)) fun _ => rfl
  corrupted n k bs := .of_view (g := (State.corrupted · n k bs)) fun _ => rfl
  committed n bs := .of_view (g := (State.committed · n bs)) fun _ => rfl

/-! ### The registers an earlier operation has left -/

/-- The view without the buffers, the codec's scratch and, until the operation ends, the status. -/
def State.withoutStale (s : State) : State :=
  { s with idx := 0, crc := none, txb := [], txlen := 0, rxb := [], rxlen := 0, st := if s.ph = .ready then s.st else .ok }

theorem blind_withoutStale : Blind State.withoutStale where
  port _ := ⟨rfl, rfl, rfl, rfl, rfl⟩
  polled := .of_view (g := State.polled) fun _ => rfl
  record e := .of_view (g := (State.record · e)) fun _ => rfl
  phase p hp := .of_view (g := fun s => { s with ph := p, st := .ok }) fun _ => by simp [State.withoutStale, hp]
  raise e := .of_view (g := (State.raise · e)) fun _ => by cases e <;> rfl
  returnOk := .of_view (g := State.returnOk) fun _ => rfl
  dropResponse := .of_view (g := State.clearWords) fun _ => rfl
  encodeFrame _ _ := .of_view (g := fun s => { s with ph := .encode, st := .ok }) fun _ => rfl
  corrupted _ _ _ := .of_view (g := fun s => { s.clearWords with ph := .decode, st := .ok }) fun _ => rfl
  committed n bs :=
    .of_view (g := fun s => { s with ph := .decode, st := .ok, w := (tripletsOf bs).map Triplet.word, nw := n }) fun _ => rfl

theorem finish_withoutStale (hi : i.isHostOp = true) : Respects State.withoutStale (State.finish i) := by
  refine .of_view (g := State.finish i) fun s => ?_
  cases i with
  | init | reset | getSerialNumber | getProductNumber | start | stop | isNewDataAvailable | getMeasurement
  | getAutoCleanInterval | setAutoCleanInterval => rfl
  | _ => cases hi

theorem accept_withoutStale (hi : i.isHostOp = true) (h : sameBeforeAHostOperation s t) :
    (s.accept i).withoutStale = (t.accept i).withoutStale := by
  obtain ⟨ls, ph, cfg, requests, script, polls, trace⟩ := h
  rw [State.accept, State.accept, if_pos hi, if_pos hi]
  simp [State.withoutStale, State.acceptHost, State.clearWords, State.clearPayload, ls, cfg, requests, script, polls, trace]

/-- What the host can see is in view. -/
theorem sameAfterAHostOperation_of_view (h : s.withoutStale = t.withoutStale) : sameAfterAHostOperation s t := by
  have field {α : Type} (g : State → α) : g s.withoutStale = g t.withoutStale := congrArg g h
  refine ⟨field State.ls, field State.ph, field State.cur, field State.cfg, field State.requests, field State.script,
    field State.polls, field State.trace, field State.rbool, field State.ru32, field State.rstr, field State.rstrlen,
    field State.rrec, field State.errIdx, field State.ioErr, fun hr => ?_⟩
  have hr' : t.ph = .ready := (field State.ph).symm.trans hr
  have status := field State.st
  rwa [State.withoutStale, State.withoutStale, if_pos hr, if_pos hr'] at status

/-- Settles O32: from acceptance on, the two runs show the same view. -/
theorem hostOperationsIgnoreStaleRegisters : Obligations.HostOperationsIgnoreStaleRegisters := by
  unfold Obligations.HostOperationsIgnoreStaleRegisters
  intro i s t s' hi hr same h
  have accepted := accept_withoutStale hi same
  obtain ⟨ls, ph, cfg, -⟩ := same
  rw [exec_ready (transacts_of_hostOp _ hi) hr] at h
  rw [exec_ready (transacts_of_hostOp _ hi) (ph ▸ hr)]
  have view := blind_withoutStale.transact (transacts_of_hostOp _ hi) (finish_withoutStale hi) accepted
    (by rw [State.accept_ls, State.accept_ls, ls]) fun hw => absurd hw (accept_ph_ne hr nofun nofun)
  rw [h] at view
  obtain ⟨t', ht', view⟩ := viewed_eq_next view.symm
  exact ⟨t', ht', sameAfterAHostOperation_of_view view.symm⟩

/-! ### The executor and the lifecycle state -/

/-- Which operations have an exchange is no matter of the configuration. -/
theorem exchangeOf_ne_none {cfg cfg' : Config} (h : exchangeOf cfg i ≠ .none) : exchangeOf cfg' i ≠ .none := by
  cases i with
  | init | generateChecksum | verifyChecksum | encode | decode | reserved0A0B | reserved0C0F | reserved181F =>
    exact absurd rfl h
  | _ => nofun

theorem finish_withoutLs (hi : i.isHostOp = false) : Respects State.withoutLs (State.finish i) :=
  .of_view (g := State.finish i) fun s => by
    rw [finish_unit hi, finish_unit hi]
    rfl

theorem accept_withoutLs (s : State) (l : Lifecycle) :
    (({ s with ls := l } : State).accept i).withoutLs = (s.accept i).withoutLs := by
  unfold State.accept
  split <;> rfl

theorem viewed_exec_withoutLs (hi : i.isHostOp = false) (hx : exchangeOf s.cfg i ≠ .none) (l : Lifecycle) :
    viewed State.withoutLs (exec i { s with ls := l }) = viewed State.withoutLs (exec i s) := by
  have guard (l l' : Lifecycle) : guardCell i l = guardCell i l' := by
    rw [guardCell_of_not_hostOp hi, guardCell_of_not_hostOp hi]
  have transact {u v : State} (hu : exchangeOf u.cfg i ≠ .none) (h : u.withoutLs = v.withoutLs) :
      viewed State.withoutLs (u.transact i) = viewed State.withoutLs (v.transact i) :=
    blind_withoutLs.transact (.inr hu) (finish_withoutLs hi) h (guard _ _) fun _ =>
      ⟨show u.withoutLs.txb = v.withoutLs.txb by rw [h], show u.withoutLs.txlen = v.withoutLs.txlen by rw [h]⟩
  by_cases hr : s.ph = .ready
  · rw [exec_ready (.inr hx) hr, exec_ready (s := { s with ls := l }) (.inr hx) hr]
    exact transact (by simpa using hx) (accept_withoutLs s l)
  by_cases hc : s.cur = some i
  · rw [exec_resumed (.inr hx) hr hc, exec_resumed (s := { s with ls := l }) (.inr hx) hr hc]
    exact transact hx rfl
  · rw [exec_eq_transact (.inr hx), exec_eq_transact (s := { s with ls := l }) (.inr hx), State.run, State.run]
    simp [hr, hc]

theorem eq_withLs_of_view {r r' : Result} {l : Lifecycle} (h : viewed State.withoutLs r' = viewed State.withoutLs r)
    (hl : ∀ t, r' = .next t → t.ls = l) : r' = withLs l r := by
  cases r with
  | next t =>
    obtain ⟨t', rfl, view⟩ := viewed_eq_next h
    have ls := hl t' rfl
    calc Host.Outcome.next t' = .next { t'.withoutLs with ls := t'.ls } := rfl
      _ = .next { t with ls := l } := by rw [view, ls]; rfl
  | fault | refused =>
    cases r' <;> cases h
    rfl

/-- An operation that is no host operation leaves `LS`. -/
theorem exec_ls_of_unit (hi : i.isHostOp = false) (h : exec i s = .next t) : t.ls = s.ls := by
  refine exec_ls h ?_ ?_ ?_ <;> rintro rfl <;> cases hi

/-! ### The executor's statuses -/

/-- The operation has returned `Ok`: no call failed, no response had a failing triplet, and the status is as it was. -/
def ReturnedOk (s t : State) : Prop :=
  t.ret = some .ok ∧ t.st = s.st ∧ t.errIdx = s.errIdx ∧ t.ioErr = s.ioErr ∧
    ∃ es, t.trace = s.trace ++ es ∧ (∀ c e, PortEvent.call c (.ioError e) ∉ es) ∧
      ∀ n bs k, PortEvent.call (.read (3 * n)) (.ok bs) ∈ es → ¬ leastBad bs n k

/-- The operation has ended with the port's error, the first one in what it caused. -/
def SurfacedIoError (s t : State) : Prop :=
  ∃ es c e, t.trace = s.trace ++ es ++ [.call c (.ioError e)] ∧ (∀ c' e', PortEvent.call c' (.ioError e') ∉ es) ∧
    t.st = .transportError ∧ t.ioErr = some e

/-- The operation has ended with the least failing triplet of its response, no call having failed. -/
def SurfacedChecksum (s t : State) : Prop :=
  ∃ es n bs k, t.trace = s.trace ++ es ++ [.call (.read (3 * n)) (.ok bs)] ∧
    (∀ c e, PortEvent.call c (.ioError e) ∉ es) ∧ leastBad bs n k ∧ t.st = .checksumError ∧ t.errIdx = some k

/-- An operation that is no host operation and whose last call is answered well returns. -/
theorem Reaches.returnedOk {bs : List Byte} (h : Reaches i u v c) (trace : t.trace = v.trace ++ [.call c (.ok bs)])
    (intact : ∀ n k, c = .read (3 * n) → ¬ leastBad bs n k) (ret : t.ret = some .ok) (kept : KeepsResults v t) :
    ReturnedOk u t := by
  obtain ⟨es, before, noError, noResponse⟩ := h.quiet
  obtain ⟨st, errIdx, ioErr, -⟩ := kept
  obtain ⟨vst, verrIdx, vioErr, -⟩ := h.keepsResults
  refine ⟨ret, st.trans vst, errIdx.trans verrIdx, ioErr.trans vioErr, es ++ [.call c (.ok bs)], ?_, ?_, ?_⟩
  · rw [trace, before, List.append_assoc]
  · simp [noError]
  · intro n bs' k answer
    rw [List.mem_append, List.mem_singleton] at answer
    cases answer.resolve_left (noResponse _ _)
    exact intact n k rfl

theorem Ending.surfaced (h : Ending i u t) (hi : i.isHostOp = false) (hr : t.ph = .ready) :
    ReturnedOk u t ∨ SurfacedIoError u t ∨ SurfacedChecksum u t := by
  cases h with
  | held h => exact absurd hr h.ph_ne_ready
  | @failed v c h _ e =>
    obtain ⟨es, trace, noError, -⟩ := h.quiet
    exact .inr (.inl ⟨es, c, e, by simp [trace], noError, rfl, rfl⟩)
  | @readFailed v m h e =>
    obtain ⟨es, trace, noError, -⟩ := h.quiet
    exact .inr (.inl ⟨es, .read m, e, by simp [trace, State.dropResponse], noError, rfl, rfl⟩)
  | corrupt h hl hk =>
    obtain ⟨es, trace, noError, -⟩ := h.quiet
    exact .inr (.inr ⟨es, _, _, _, by simp [trace], noError, (firstBad_tripletsOf_eq_some hl).1 hk, rfl, rfl⟩)
  | @committed v n bs h hl hk =>
    rw [finish_unit hi]
    refine .inl (h.returnedOk rfl (fun m k hm bad => ?_) rfl ⟨rfl, rfl, rfl, rfl, rfl, rfl, rfl, rfl⟩)
    obtain rfl : n = m := by simpa using hm
    exact absurd ((firstBad_tripletsOf_eq_some hl).2 bad) (by simp [hk])
  | sent h =>
    rw [finish_unit hi]
    exact .inl (h.returnedOk rfl nofun rfl ⟨rfl, rfl, rfl, rfl, rfl, rfl, rfl, rfl⟩)
  | addressed h => cases h.of_setAddress; cases hi

/-- Settles O22. -/
theorem executorMapsStatusesAndIgnoresLifecycle : Obligations.ExecutorMapsStatusesAndIgnoresLifecycle := by
  unfold Obligations.ExecutorMapsStatusesAndIgnoresLifecycle
  intro i hi hx
  refine ⟨fun s l => ?_, fun s t h => ⟨exec_ls_of_unit hi h, fun hr => ?_⟩⟩
  · exact eq_withLs_of_view (viewed_exec_withoutLs hi (exchangeOf_ne_none hx) l) fun t => exec_ls_of_unit hi
  · obtain ⟨u, hu, he⟩ := exec_bodyEnding (.inr (exchangeOf_ne_none hx)) h
    obtain ⟨r, j, rfl⟩ := hu.unit hi
    have surfaced := (he.ending hi).surfaced hi hr
    exact surfaced

end Sys2Proof.Machine
end
